-- ==== Sys2Proof/Word.lean ====
section
/-! DEFINITION. The two data units of the block: the byte and the 4-byte frame (00_scope.md R7, R9). -/

namespace Sys2Proof

/-- A byte: 8 bits, unsigned (R7 `BYTE`, R9). -/
abbrev Byte := BitVec 8

/-- Four bytes in wire order, `b0` first (20_memory.md R44). -/
structure Frame where
  b0 : Byte
  b1 : Byte
  b2 : Byte
  b3 : Byte
  deriving DecidableEq, Repr

/-- The bytes of a frame in wire order (R44). -/
abbrev Frame.toList (f : Frame) : List Byte := [f.b0, f.b1, f.b2, f.b3]

end Sys2Proof
end

