-- ==== Sys2Proof/Config.lean ====
section
/-! DEFINITION. What an implementation fixes (00_scope.md R7, R8) and the free values of the model. -/

namespace Sys2Proof

/-- Bytes in a frame, both directions (R7 `FRAME_LEN`). -/
abbrev Config.frameLen : Nat := 4

/-- Relays of one controller, bit positions 0 to 7 (R7 `N_RELAYS`). -/
abbrev Config.nRelays : Nat := 8

/-- Line rate of the protocol (R7 `BAUD`); no rule of the model depends on it (R8). -/
abbrev Config.baud : Nat := 19200

/-- A positive, finite number of seconds, fractions allowed: (numPred + 1) / (denPred + 1).
Zero, negative and infinite timeouts cannot be written down (R8, 92 D7). -/
structure Seconds where
  numPred : Nat
  denPred : Nat
  deriving DecidableEq, Repr, Inhabited

/-- The parity of a line format. -/
inductive Parity where
  | none
  | even
  | odd
  | mark
  | space
  deriving DecidableEq, Repr, Inhabited

/-- What R8 lists under `LINE_FORMAT`: data bits, parity, stop bits (in halves) and bit order on the line. -/
structure LineFormat where
  dataBits : Nat
  parity : Parity
  stopHalves : Nat
  lsbFirst : Bool
  deriving DecidableEq, Repr, Inhabited

/-- `TMO_VAL`, the configured read timeout (R8, 93 I15): a parameter, so no value is chosen. -/
opaque Config.tmoVal : Seconds

/-- `T_DISC_DEFAULT`, discovery's default read timeout (R8, 93 I16): a parameter, so no value is chosen.
The source's own number is 0.3 s, unaudited (90 C5, 92 D29). -/
opaque Config.tDiscDefault : Seconds

/-- `LINE_FORMAT` (R8, 92 D20): open, and no rule depends on it. -/
opaque Config.lineFormat : LineFormat

/-- FREE VALUE: the bytes still queued in the transport after a reset that aborts a running operation
(70_reset_and_hazards.md R111, 93 I13: unspecified). The argument is the counter `State.draws`. -/
opaque Config.queueAfterAbort : Nat → List Byte

/-- FREE VALUE: bytes the environment gives that no move names (20_memory.md R41: "a draw"; 93 I5). The argument is the
counter `State.draws`. -/
opaque Config.arrival : Nat → List Byte

end Sys2Proof
end

