-- ==== Sys2Proof/Syntax.lean ====
section
/-! DEFINITION. The instructions: one constructor per row of spec/opcode_table.json, in its order. -/

namespace Sys2Proof

/-- Three formats (30_encoding.md R53 to R55).
HOSTCMD rows carry `r` (the reserved bits 6:5, ignored), `t` (TMOEN) and `d` (DBG).
REQ and RSP rows carry the frame's `address`, `data` and `checksum` bytes, in that order; SETUP has every bit fixed. -/
inductive Instr where
  | init (r : BitVec 2) (t d : Bool)                    -- HOSTCMD OP 0, DISCOVER (R89)
  | set (r : BitVec 2) (t d : Bool)                     -- HOSTCMD OP 1, SET (R83)
  | clear (r : BitVec 2) (t d : Bool)                   -- HOSTCMD OP 2, CLEAR (R84)
  | toggle (r : BitVec 2) (t d : Bool)                  -- HOSTCMD OP 3, TOGGLE (R85)
  | port (r : BitVec 2) (t d : Bool)                    -- HOSTCMD OP 4, PORT_READ (R86)
  | portSet (r : BitVec 2) (t d : Bool)                 -- HOSTCMD OP 5, PORT_WRITE (R88)
  | setup                                               -- REQ 0x01 SETUP (R90)
  | getPort (address data checksum : Byte)              -- REQ 0x02 GET_PORT (R86)
  | setPort (address data checksum : Byte)              -- REQ 0x03 SET_PORT (R88)
  | setSingle (address data checksum : Byte)            -- REQ 0x06 SET_SINGLE (R83)
  | delSingle (address data checksum : Byte)            -- REQ 0x07 DEL_SINGLE (R84)
  | toggleReq (address data checksum : Byte)            -- REQ 0x08 TOGGLE (R85)
  | toggleOk (address data checksum : Byte)             -- RSP 247 TOGGLE_OK (R85)
  | delSingleOk (address data checksum : Byte)          -- RSP 248 DEL_SINGLE_OK (R84)
  | setSingleOk (address data checksum : Byte)          -- RSP 249 SET_SINGLE_OK (R83)
  | setPortOk (address data checksum : Byte)            -- RSP 252 SET_PORT_OK (R88)
  | getPortOk (address data checksum : Byte)            -- RSP 253 GET_PORT_OK (R86)
  | announce (address data checksum : Byte)             -- RSP 254 ANNOUNCE (R95)
  | error (address data checksum : Byte)                -- RSP 255 ERROR (R96)
  deriving DecidableEq, Repr

end Sys2Proof
end

