-- ==== Sys2Proof/WellFormed.lean ====
section
/-! DEFINITION. Which instructions are well formed.
A request is well formed when it is a frame the block can send at all: its checksum holds (30_encoding.md R53) and its
data byte is one its operation supplies (R56). A host command is well formed with any reserved bits, which are ignored
(R55, 10_state.md R18). A response is well formed with any bytes: a checksum that does not hold is an operand value with
a meaning of its own, ChecksumError (40_codec.md R74). -/

namespace Sys2Proof

/-- A relay-select byte has exactly one bit set (30_encoding.md R57). -/
def isRelaySelector (d : Byte) : Bool :=
  d ∈ [0x01#8, 0x02#8, 0x04#8, 0x08#8, 0x10#8, 0x20#8, 0x40#8, 0x80#8]

/-- The checksum invariant of a frame (30_encoding.md R53, R54). -/
def checksumHolds (c a d k : Byte) : Bool := k == c ^^^ a ^^^ d

/-- Well-formedness, one arm per constructor. -/
def Instr.wf : Instr → Bool
  | .init _ _ _ => true
  | .set _ _ _ => true
  | .clear _ _ _ => true
  | .toggle _ _ _ => true
  | .port _ _ _ => true
  | .portSet _ _ _ => true
  | .setup => true
  | .getPort a d k => checksumHolds 0x02#8 a d k && d == 0x00#8
  | .setPort a d k => checksumHolds 0x03#8 a d k
  | .setSingle a d k => checksumHolds 0x06#8 a d k && isRelaySelector d
  | .delSingle a d k => checksumHolds 0x07#8 a d k && isRelaySelector d
  | .toggleReq a d k => checksumHolds 0x08#8 a d k && isRelaySelector d
  | .toggleOk _ _ _ => true
  | .delSingleOk _ _ _ => true
  | .setSingleOk _ _ _ => true
  | .setPortOk _ _ _ => true
  | .getPortOk _ _ _ => true
  | .announce _ _ _ => true
  | .error _ _ _ => true

end Sys2Proof
end

