-- ==== Sys2Proof/Decode.lean ====
section
/-! DEFINITION. The decoder (total, rejecting by name) and the encoder, from the tables of 30_encoding.md. -/

namespace Sys2Proof

/-- Why a decoder refuses its bytes. -/
inductive DecodeError where
  /-- A CTRL byte whose START bit is 0 is no start command (R55). -/
  | notStart (v : Byte)
  /-- OP 6 and 7 are reserved (R63). -/
  | reservedOp (op : BitVec 3)
  /-- Command 0x01 in a frame that is not SETUP's only frame (01, 01, 00, 00) (R90). -/
  | notSetup (f : Frame)
  /-- A first byte that no row of the format has (R64, R65). -/
  | unlistedCode (c : Byte)
  /-- Neither one byte (HOSTCMD) nor four (REQ, RSP) (R66). -/
  | badLength (n : Nat)
  deriving DecidableEq, Repr

/-- Format HOSTCMD: `1rrtdooo` (R55), operation numbers of R62. -/
def decodeHost (v : Byte) : Except DecodeError Instr :=
  let r : BitVec 2 := v.extractLsb' 5 2
  let t := v.getLsbD 4
  let d := v.getLsbD 3
  let op : BitVec 3 := v.extractLsb' 0 3
  if v.getLsbD 7 = false then .error (.notStart v)
  else if op = 0#3 then .ok (.init r t d)
  else if op = 1#3 then .ok (.set r t d)
  else if op = 2#3 then .ok (.clear r t d)
  else if op = 3#3 then .ok (.toggle r t d)
  else if op = 4#3 then .ok (.port r t d)
  else if op = 5#3 then .ok (.portSet r t d)
  else .error (.reservedOp op)

/-- Format REQ (R53), by the request opcodes of R59. -/
def decodeReq (f : Frame) : Except DecodeError Instr :=
  if f.b0 = 0x01#8 then
    if f = ⟨0x01#8, 0x01#8, 0x00#8, 0x00#8⟩ then .ok .setup else .error (.notSetup f)
  else if f.b0 = 0x02#8 then .ok (.getPort f.b1 f.b2 f.b3)
  else if f.b0 = 0x03#8 then .ok (.setPort f.b1 f.b2 f.b3)
  else if f.b0 = 0x06#8 then .ok (.setSingle f.b1 f.b2 f.b3)
  else if f.b0 = 0x07#8 then .ok (.delSingle f.b1 f.b2 f.b3)
  else if f.b0 = 0x08#8 then .ok (.toggleReq f.b1 f.b2 f.b3)
  else .error (.unlistedCode f.b0)

/-- Format RSP (R54), by the response codes of R60 (names as 90 C1 settles them). -/
def decodeRsp (f : Frame) : Except DecodeError Instr :=
  if f.b0 = 0xF7#8 then .ok (.toggleOk f.b1 f.b2 f.b3)
  else if f.b0 = 0xF8#8 then .ok (.delSingleOk f.b1 f.b2 f.b3)
  else if f.b0 = 0xF9#8 then .ok (.setSingleOk f.b1 f.b2 f.b3)
  else if f.b0 = 0xFC#8 then .ok (.setPortOk f.b1 f.b2 f.b3)
  else if f.b0 = 0xFD#8 then .ok (.getPortOk f.b1 f.b2 f.b3)
  else if f.b0 = 0xFE#8 then .ok (.announce f.b1 f.b2 f.b3)
  else if f.b0 = 0xFF#8 then .ok (.error f.b1 f.b2 f.b3)
  else .error (.unlistedCode f.b0)

/-- Both frame formats; no command value is also a response code (R59, R60). -/
def decodeFrame (f : Frame) : Except DecodeError Instr :=
  match decodeRsp f with
  | .ok i => .ok i
  | .error _ => decodeReq f

/-- The decoder on any bytes: one byte is a HOSTCMD, four are a frame, in wire order (R44, R66). -/
def decode : List Byte → Except DecodeError Instr
  | [v] => decodeHost v
  | [b0, b1, b2, b3] => decodeFrame ⟨b0, b1, b2, b3⟩
  | bs => .error (.badLength bs.length)

/-- The CTRL byte `1rrtdooo` of a start command (R55). -/
def hostByte (op : BitVec 3) (r : BitVec 2) (t d : Bool) : Byte :=
  1#1 ++ r ++ BitVec.ofBool t ++ BitVec.ofBool d ++ op

/-- The encoder: the bytes of an instruction in the order the hardware moves them (R44, R53 to R55, R59, R60, R62). -/
def encode : Instr → List Byte
  | .init r t d => [hostByte 0#3 r t d]
  | .set r t d => [hostByte 1#3 r t d]
  | .clear r t d => [hostByte 2#3 r t d]
  | .toggle r t d => [hostByte 3#3 r t d]
  | .port r t d => [hostByte 4#3 r t d]
  | .portSet r t d => [hostByte 5#3 r t d]
  | .setup => [0x01#8, 0x01#8, 0x00#8, 0x00#8]
  | .getPort a d k => [0x02#8, a, d, k]
  | .setPort a d k => [0x03#8, a, d, k]
  | .setSingle a d k => [0x06#8, a, d, k]
  | .delSingle a d k => [0x07#8, a, d, k]
  | .toggleReq a d k => [0x08#8, a, d, k]
  | .toggleOk a d k => [0xF7#8, a, d, k]
  | .delSingleOk a d k => [0xF8#8, a, d, k]
  | .setSingleOk a d k => [0xF9#8, a, d, k]
  | .setPortOk a d k => [0xFC#8, a, d, k]
  | .getPortOk a d k => [0xFD#8, a, d, k]
  | .announce a d k => [0xFE#8, a, d, k]
  | .error a d k => [0xFF#8, a, d, k]

/-- The four bytes of the table's word `W = b0<<24 | b1<<16 | b2<<8 | b3` (20_memory.md R45). -/
def frameOfWord (w : Nat) : Frame :=
  ⟨BitVec.ofNat 8 (w >>> 24), BitVec.ofNat 8 (w >>> 16), BitVec.ofNat 8 (w >>> 8), BitVec.ofNat 8 w⟩

/-- What the decoder reads from an instruction of the opcode table given as one number of `nbits` bits:
8 bits are a CTRL byte, 32 bits the word `W` of R45. The table has no other width. -/
def decodeTableWord (nbits w : Nat) : Option Instr :=
  if nbits = 8 then (decode [BitVec.ofNat 8 w]).toOption
  else if nbits = 32 then (decode (frameOfWord w).toList).toOption
  else none

end Sys2Proof
end

