-- ==== Sys2Proof/Machine/State.lean ====
section
/-! DEFINITION. The state of the FCS as plain data (10_state.md R15 to R34, 20_memory.md R43), its reset value, and the
reasons a step can stop. -/

namespace Sys2Proof.Machine

/-- The sequencer state `ST` (R22). -/
inductive SeqState where
  | idle
  | sending
  | awaiting
  | listening
  | success
  | failed
  deriving DecidableEq, Repr

/-- The error kind `ERR` (R23, 60_exceptions.md R99). -/
inductive ErrKind where
  | none
  | length
  | checksum
  | commandFailed
  deriving DecidableEq, Repr

/-- The six operations (30_encoding.md R62). OP values 6 and 7 are never latched (R63). -/
inductive Op where
  | discover
  | set
  | clear
  | toggle
  | portRead
  | portWrite
  deriving DecidableEq, Repr

/-- The effective read timeout `L_TMO` (R30): `NONE`, or which of the two finite parameters it is. -/
inductive Timeout where
  | none
  | tmoVal
  | discDefault
  deriving DecidableEq, Repr

/-- The direction of an echo (R33, R109). -/
inductive Dir where
  | tx
  | rx
  deriving DecidableEq, Repr

/-- `CTRL` (R18): the three fields that hold a value. -/
structure Ctrl where
  op : BitVec 3
  dbg : Bool
  tmoen : Bool
  deriving DecidableEq, Repr

/-- `RCODE`, `RADDR`, `RDATA` (R26); `none` is the spec's "unwritten" (R29). -/
structure RspRegs where
  rcode : Option Byte
  raddr : Option Byte
  rdata : Option Byte
  deriving DecidableEq, Repr

/-- `RXN` and `RXB0` to `RXB3` (R27); `none` is "unwritten" (R29). -/
structure RxRegs where
  rxn : BitVec 3
  rxb0 : Option Byte
  rxb1 : Option Byte
  rxb2 : Option Byte
  rxb3 : Option Byte
  deriving DecidableEq, Repr

/-- `TXB0` to `TXB3` (R28); `none` is "unwritten" (R29). -/
structure TxRegs where
  txb0 : Option Byte
  txb1 : Option Byte
  txb2 : Option Byte
  txb3 : Option Byte
  deriving DecidableEq, Repr

/-- The latched operation registers `L_OP`, `L_ADDR`, `L_ARG`, `L_DBG`, `L_TMO` (R30). -/
structure Latch where
  op : Op
  addr : Byte
  arg : Byte
  dbg : Bool
  tmo : Timeout
  deriving DecidableEq, Repr

/-- A discovery report (R33, 42_discovery.md R95). -/
structure Report where
  addr : Byte
  fw : Byte
  deriving DecidableEq, Repr

/-- A diagnostic echo (R33, R109). -/
structure Echo where
  dir : Dir
  frame : Frame
  deriving DecidableEq, Repr

/-- One move of an agent (R16). The list of them fixes one interleaving (DESIGN CHOICE, log 2). -/
inductive Input where
  /-- HOST writes the register at an index (R17, R122). -/
  | write (index value : Byte)
  /-- HOST reads the register at an index (R17, R122). -/
  | read (index : Byte)
  /-- HOST resets the block (R111, R122). -/
  | reset
  /-- ENV: these bytes arrive in the transport's receive queue (20_memory.md R42). -/
  | arrive (bytes : List Byte)
  /-- ENV: bytes arrive that the move does not name, a free value (R41, log 2). -/
  | arriveAny
  /-- ENV: the read-timeout timer runs out (60_exceptions.md R106). -/
  | expire
  /-- ENV: the device goes away, which ends the read in progress short (20_memory.md R40). -/
  | disconnect
  /-- SEQ takes its next step (R16). -/
  | seq
  deriving DecidableEq, Repr

/-- Why the machine stops with a fault. -/
inductive Fault where
  /-- The host read an unwritten register: "A model must not give such a read a value: it treats the read as a fault"
  (R29; R114, 92 D16, 93 I1, 95 V62); raised by the host read. SAFE: no claim can rest on the unspecified byte. -/
  | unwrittenRead (index : Byte)
  deriving DecidableEq, Repr

/-- Why the machine gives an input or an instruction no meaning. -/
inductive Refusal where
  /-- An instruction without a meaning yet; raised by exec's arm alone. SAFE. -/
  | notModelled (mnemonic : String)
  /-- A host access to index 17 to 255 (R17, 93 I2 "refuse"); raised by the host read and write. SAFE. -/
  | reservedIndex (index : Byte)
  /-- START with OP 6 or 7 (30_encoding.md R63, 93 I3 "refuse"); raised by the host write. SAFE. -/
  | reservedOp (op : BitVec 3)
  /-- START while BUSY = 1 (70_reset_and_hazards.md R113, 93 I4 "refuse"); raised by the host commands. SAFE: the
  hardware ignores it. -/
  | startWhileBusy
  /-- A request while SEQ is not in SENDING (41_single_shot.md R79, 42_discovery.md R90); raised by the requests. SAFE:
  the hardware sends nothing then (R51, R103). -/
  | notSending
  /-- A request other than the one the latches build (30_encoding.md R56, R64); raised by the requests. SAFE: the
  hardware never sends it (log 13). -/
  | notLatchedRequest
  /-- A response while no read is in progress (R80, R92, R103); raised by the responses. SAFE: the bytes stay queued in
  the hardware (20_memory.md R42, log 1). -/
  | noReadInProgress
  deriving DecidableEq, Repr

/-- The machine's state. The last six fields belong to the transport and the other agents, not to the block. -/
structure State where
  /-- `CTRL` (R18). -/
  ctrl : Ctrl
  /-- `ADDR` (R19). -/
  addr : Byte
  /-- `ARG` (R20). -/
  arg : Byte
  /-- `STATUS.ST` (R22). -/
  st : SeqState
  /-- `STATUS.ERR` (R23). -/
  err : ErrKind
  /-- `RESULT` (R25); `none` is "unwritten" (R29). -/
  result : Option Byte
  /-- `RCODE`, `RADDR`, `RDATA` (R26). -/
  rsp : RspRegs
  /-- `RXN`, `RXB0` to `RXB3` (R27). -/
  rx : RxRegs
  /-- `TXB0` to `TXB3` (R28). -/
  tx : TxRegs
  /-- `L_OP`, `L_ADDR`, `L_ARG`, `L_DBG`, `L_TMO` (R30). -/
  latch : Latch
  /-- `REPORTS` (R33). -/
  reports : List Report
  /-- `ECHOES` (R33). -/
  echoes : List Echo
  /-- `TXLOG` (R32). -/
  txlog : List Frame
  /-- `RXLOG` (R32). -/
  rxlog : List (List Byte)
  /-- The transport's receive queue, oldest byte first (20_memory.md R42, R43). -/
  rxQueue : List Byte
  /-- MODEL'S OWN: the agents' moves still to come, once each (log 2). -/
  inputs : List Input
  /-- MODEL'S OWN: the moves that come after `inputs`, over and over without end (R98, R115; log 2). -/
  forever : List Input
  /-- MODEL'S OWN: how many moves of `forever` were made since the read in progress began (R121; log 4). -/
  waited : Nat
  /-- MODEL'S OWN: what the host's register reads returned, as (index, value), oldest first (log 11). -/
  hostReads : List (Byte × Byte)
  /-- MODEL'S OWN: how many free values have been used (log 9). -/
  draws : Nat
  deriving DecidableEq, Repr

/-- No response registers written (R29). -/
def RspRegs.unwritten : RspRegs := ⟨none, none, none⟩

/-- `RXN` = 0 and no receive byte written (R27, R34). -/
def RxRegs.cleared : RxRegs := ⟨0#3, none, none, none, none⟩

/-- No transmit byte written (R29). -/
def TxRegs.unwritten : TxRegs := ⟨none, none, none, none⟩

/-- What the latches hold before the first START (DESIGN CHOICE, log 8): what a START would latch from the registers' reset
values. R34 calls them unwritten and says that they are read only after a START writes them. -/
def Latch.atReset : Latch := ⟨.discover, 0x00#8, 0x00#8, false, .discDefault⟩

/-- The machine right after reset (R34, R111). The latches, the queue, the moves, the host's reads and the counters
are DESIGN CHOICE (log 2, 4, 8, 9, 10, 11). -/
def State.reset : State where
  ctrl := ⟨0#3, false, false⟩
  addr := 0x00#8
  arg := 0x00#8
  st := .idle
  err := .none
  result := none
  rsp := RspRegs.unwritten
  rx := RxRegs.cleared
  tx := TxRegs.unwritten
  latch := Latch.atReset
  reports := []
  echoes := []
  txlog := []
  rxlog := []
  rxQueue := []
  inputs := []
  forever := []
  waited := 0
  hostReads := []
  draws := 0

end Sys2Proof.Machine
end

