-- ==== Sys2Proof/Machine/Flags.lean ====
section
/-! DEFINITION. The status flags and the register bytes computed from state (10_state.md R18, R21 to R24, R27;
60_exceptions.md R104, R106), and the one-bit view of a port bitmask (41_single_shot.md R87). -/

namespace Sys2Proof.Machine

/-- The encoding of `ST` (R22). -/
def SeqState.code : SeqState → BitVec 3
  | .idle => 0#3
  | .sending => 1#3
  | .awaiting => 2#3
  | .listening => 3#3
  | .success => 4#3
  | .failed => 5#3

/-- The encoding of `ERR` (R23, R99). -/
def ErrKind.code : ErrKind → BitVec 2
  | .none => 0#2
  | .length => 1#2
  | .checksum => 2#2
  | .commandFailed => 3#2

/-- `STATUS.BUSY` of a sequencer state (R21). -/
def SeqState.busy : SeqState → Bool
  | .idle => false
  | .sending => true
  | .awaiting => true
  | .listening => true
  | .success => false
  | .failed => false

/-- `STATUS.DONE` of a sequencer state (R21, R104). -/
def SeqState.done : SeqState → Bool
  | .idle => false
  | .sending => false
  | .awaiting => false
  | .listening => false
  | .success => true
  | .failed => true

/-- A read of the transport is in progress: SEQ is in its receive or listen step (R80, R92). -/
def SeqState.reading : SeqState → Bool
  | .idle => false
  | .sending => false
  | .awaiting => true
  | .listening => true
  | .success => false
  | .failed => false

/-- `STATUS.BUSY` (R21). -/
def State.busy (s : State) : Bool := s.st.busy

/-- `STATUS.DONE` (R21). -/
def State.done (s : State) : Bool := s.st.done

/-- The byte `STATUS` reads as: DONE(7) BUSY(6) ERR(5:4) 0(3) ST(2:0) (R21). -/
def State.statusByte (s : State) : Byte :=
  BitVec.ofBool s.done ++ BitVec.ofBool s.busy ++ s.err.code ++ 0#1 ++ s.st.code

/-- The byte `CTRL` reads as: START and the reserved bits read 0 (R18). -/
def State.ctrlByte (s : State) : Byte :=
  0#1 ++ 0#2 ++ BitVec.ofBool s.ctrl.tmoen ++ BitVec.ofBool s.ctrl.dbg ++ s.ctrl.op

/-- The byte `RXN` reads as: bits 7:3 read 0 (R17, R27). -/
def State.rxnByte (s : State) : Byte := 0#5 ++ s.rx.rxn

/-- A timeout that is finite (R30, R40). -/
def Timeout.finite : Timeout → Bool
  | .none => false
  | .tmoVal => true
  | .discDefault => true

/-- The length of a timeout; `none` blocks forever (R8, R30). No rule depends on the number. -/
def Timeout.seconds : Timeout → Option Seconds
  | .none => Option.none
  | .tmoVal => Option.some Config.tmoVal
  | .discDefault => Option.some Config.tDiscDefault

/-- The read-timeout timer runs exactly while a read with a finite `L_TMO` is in progress (R106). -/
def State.timerArmed (s : State) : Bool := s.st.reading && s.latch.tmo.finite

/-- Relay `i` (zero-based) is on in a port bitmask exactly when bit `i` is 1 (R25, R87). -/
def relayOn (mask : Byte) (i : BitVec 3) : Bool := mask.getLsbD i.toNat

end Sys2Proof.Machine
end

