-- ==== Sys2Proof/Machine/Operands.lean ====
section
/-! DEFINITION. Operand assembly: what each operation sends and what it accepts (30_encoding.md R56 to R62), and the
values START latches (10_state.md R30). -/

namespace Sys2Proof.Machine

/-- The `OP` number of an operation (R62). -/
def Op.code : Op → BitVec 3
  | .discover => 0#3
  | .set => 1#3
  | .clear => 2#3
  | .toggle => 3#3
  | .portRead => 4#3
  | .portWrite => 5#3

/-- Column `command` of R56 (values of R59). -/
def Op.command : Op → Byte
  | .discover => 0x01#8
  | .set => 0x06#8
  | .clear => 0x07#8
  | .toggle => 0x08#8
  | .portRead => 0x02#8
  | .portWrite => 0x03#8

/-- `EXPECT`, the success code of a single-shot operation (R60, 41_single_shot.md R81; 90 C1). DISCOVER compares with
no code; its own, ANNOUNCE, stands here (R61). -/
def Op.expect : Op → Byte
  | .discover => 254#8
  | .set => 249#8
  | .clear => 248#8
  | .toggle => 247#8
  | .portRead => 253#8
  | .portWrite => 252#8

/-- The state after the send step (R79, R90). -/
def Op.afterSend : Op → SeqState
  | .discover => .listening
  | .set => .awaiting
  | .clear => .awaiting
  | .toggle => .awaiting
  | .portRead => .awaiting
  | .portWrite => .awaiting

/-- A relay-select byte, `1 << i` (R57). -/
def relayBit (i : BitVec 3) : Byte := 1#8 <<< i.toNat

/-- The zero-based relay index `ARG[2:0]` (R20, R57). -/
def relayIndex (arg : Byte) : BitVec 3 := arg.extractLsb' 0 3

/-- Column `address` of R56: DISCOVER always sends 0x01 (R36, R90). -/
def Latch.reqAddress (l : Latch) : Byte :=
  match l.op with
  | .discover => 0x01#8
  | .set => l.addr
  | .clear => l.addr
  | .toggle => l.addr
  | .portRead => l.addr
  | .portWrite => l.addr

/-- Column `data` of R56. -/
def Latch.reqData (l : Latch) : Byte :=
  match l.op with
  | .discover => 0x00#8
  | .set => relayBit (relayIndex l.arg)
  | .clear => relayBit (relayIndex l.arg)
  | .toggle => relayBit (relayIndex l.arg)
  | .portRead => 0x00#8
  | .portWrite => l.arg

/-- The effective timeout a START latches (R30, R91). -/
def effectiveTimeout (tmoen : Bool) (op : Op) : Timeout :=
  match tmoen with
  | true => .tmoVal
  | false =>
    match op with
    | .discover => .discDefault
    | .set => .none
    | .clear => .none
    | .toggle => .none
    | .portRead => .none
    | .portWrite => .none

end Sys2Proof.Machine
end

