-- ==== Sys2Proof/Machine/Codec.lean ====
section
/-! DEFINITION. The frame codec as pure functions: CHECKSUM, ENCODE's frame and DECODE's verdict (40_codec.md). -/

namespace Sys2Proof.Machine

/-- `CHECKSUM(c, a, d)` (R69). -/
def checksum (c a d : Byte) : Byte := c ^^^ a ^^^ d

/-- The frame `ENCODE(c, a, d)` returns (R70). -/
def packFrame (c a d : Byte) : Frame := ⟨c, a, d, checksum c a d⟩

/-- The fields DECODE extracts (R75). -/
structure Response where
  code : Byte
  addr : Byte
  data : Byte
  deriving DecidableEq, Repr

/-- The two errors DECODE raises, with what R71 gives them. -/
inductive CodecError where
  | length (n : Nat)
  | checksum (f : Frame)
  deriving DecidableEq, Repr

/-- The error kind of a codec error (R99). -/
def CodecError.kind : CodecError → ErrKind
  | .length _ => .length
  | .checksum _ => .checksum

/-- The verdict of `DECODE(r)` on any byte list: length first, then checksum (R71, R72, R74, R102). -/
def validate : List Byte → Except CodecError Response
  | [b0, b1, b2, b3] =>
    if b3 = checksum b0 b1 b2 then .ok ⟨b0, b1, b2⟩ else .error (.checksum ⟨b0, b1, b2, b3⟩)
  | r => .error (.length r.length)

/-- The frame an operation sends, from its latches (30_encoding.md R56). -/
def Latch.request (l : Latch) : Frame := packFrame l.op.command l.reqAddress l.reqData

/-- That request as an instruction (R56, R59). -/
def Latch.requestInstr (l : Latch) : Instr :=
  let f := l.request
  match l.op with
  | .discover => .setup
  | .set => .setSingle f.b1 f.b2 f.b3
  | .clear => .delSingle f.b1 f.b2 f.b3
  | .toggle => .toggleReq f.b1 f.b2 f.b3
  | .portRead => .getPort f.b1 f.b2 f.b3
  | .portWrite => .setPort f.b1 f.b2 f.b3

end Sys2Proof.Machine
end

