-- ==== Sys2Proof/Machine/Ops.lean ====
section
/-! DEFINITION. The named operations over the state: the primitives of 00_scope.md R11, the state effects of ENCODE and
DECODE, START, the failure entry (the one way an error is taken) and reset. -/

namespace Sys2Proof.Machine

/-- `ST <- S` (R10). -/
def State.enter (q : SeqState) (s : State) : State := { s with st := q }

/-- FAILURE ENTRY, `raise E` (60_exceptions.md R101): `ERR <- code of E`, `ST <- FAILED`, nothing else. There is no
return from it (R103): a FAILED operation is left only by START or reset. -/
def State.raise (e : ErrKind) (s : State) : State := { s with err := e, st := .failed }

/-- `Echo(dir, f)`, only when `L_DBG = 1` (R11, R109). -/
def State.echo (dbg : Bool) (dir : Dir) (f : Frame) (s : State) : State :=
  { s with echoes := if dbg then s.echoes ++ [⟨dir, f⟩] else s.echoes }

/-- `Report(a, v)` (R11, R95). -/
def State.report (a v : Byte) (s : State) : State := { s with reports := s.reports ++ [⟨a, v⟩] }

/-- `TxWrite(f)`: always completes (20_memory.md R39, log 17). -/
def State.txWrite (f : Frame) (s : State) : State := { s with txlog := s.txlog ++ [f] }

/-- What `RXN` and `RXB0` to `RXB3` hold after a read that returned `r` (R27, R40). -/
def rxRegsOf (r : List Byte) : RxRegs :=
  ⟨BitVec.ofNat 3 r.length, r[0]?, r[1]?, r[2]?, r[3]?⟩

/-- The record a read makes of its result `r`: `RXN`, `RXB0` to `RXB3`, `RXLOG` (R40). -/
def State.rxRead (r : List Byte) (s : State) : State :=
  { s with rx := rxRegsOf r, rxlog := s.rxlog ++ [r] }

/-- `TXB0` to `TXB3 <- f` (R28, R70). -/
def State.setTx (f : Frame) (s : State) : State :=
  { s with tx := ⟨some f.b0, some f.b1, some f.b2, some f.b3⟩ }

/-- The state effect of `ENCODE(c, a, d)` (40_codec.md R70). -/
def State.encodeReq (dbg : Bool) (f : Frame) (s : State) : State := (s.setTx f).echo dbg .tx f

/-- `RCODE`, `RADDR`, `RDATA <- p` (R26, R75). -/
def State.setRsp (p : Response) (s : State) : State :=
  { s with rsp := ⟨some p.code, some p.addr, some p.data⟩ }

/-- `RESULT <- v` (R25, R81). -/
def State.setResult (v : Byte) (s : State) : State := { s with result := some v }

/-- DECODE's echo: only a read of four bytes has one, before its checksum check (R73). -/
def State.echoRead (dbg : Bool) (r : List Byte) (s : State) : State :=
  match r with
  | [b0, b1, b2, b3] => s.echo dbg .rx ⟨b0, b1, b2, b3⟩
  | _ => s

/-- The state effect of `DECODE(r)` short of its raise (40_codec.md R71, R74, R75). -/
def State.decodeRsp (dbg : Bool) (r : List Byte) (s : State) : State :=
  match validate r with
  | .error _ => s.echoRead dbg r
  | .ok p => (s.echoRead dbg r).setRsp p

/-- A write to `CTRL` as far as its three fields go (R18). -/
def State.writeCtrl (op : BitVec 3) (dbg tmoen : Bool) (s : State) : State :=
  { s with ctrl := ⟨op, dbg, tmoen⟩ }

/-- What an accepted START latches, from the registers and the CTRL byte just written (R30, R31). -/
def State.latched (op : Op) (s : State) : Latch :=
  ⟨op, s.addr, s.arg, s.ctrl.dbg, effectiveTimeout s.ctrl.tmoen op⟩

/-- The effect of an accepted START once `CTRL` is written (R31). The streams are not cleared. -/
def State.startOp (op : Op) (s : State) : State :=
  { s with
    latch := s.latched op
    err := .none
    result := none
    rsp := RspRegs.unwritten
    rx := RxRegs.cleared
    tx := TxRegs.unwritten
    st := .sending }

/-- Reset by the host (70_reset_and_hazards.md R111). Every piece of FCS state takes its reset value. The transport's
queue is not the block's and stays (20_memory.md R42), but after a reset that aborts an operation what stays queued is
unspecified (93 I13): a free value (log 9). -/
def State.resetBy (s : State) : State :=
  { State.reset with
    rxQueue := if s.busy then Config.queueAfterAbort s.draws else s.rxQueue
    draws := if s.busy then s.draws + 1 else s.draws
    inputs := s.inputs
    forever := s.forever
    hostReads := s.hostReads }

end Sys2Proof.Machine
end

