-- ==== Sys2Proof/Machine/Sequencer.lean ====
section
/-! DEFINITION. The steps of SEQ as shared operations: START, the send step, the receive step and the listen step
(10_state.md R31, 41_single_shot.md R78 to R82, 42_discovery.md R89 to R98). -/

namespace Sys2Proof.Machine

/-- A CTRL write with START = 1 (R18, R31, R113): the fields are written, then START takes the new values. -/
def hostStart (op : Op) (t d : Bool) (s : State) : Host.Outcome State Fault Refusal :=
  if s.busy then .refused .startWhileBusy
  else .next ((s.writeCtrl op.code d t).startOp op)

/-- The send step's effect (R79, R90): ENCODE, TxWrite, then AWAITING or LISTENING. -/
def State.send (s : State) : State :=
  let f := s.latch.request
  ((s.encodeReq s.latch.dbg f).txWrite f).enter s.latch.op.afterSend

/-- The send step of the request `f`: it runs in SENDING, and sends what the latches build, nothing else (R56, R64). -/
def sendStep (f : Frame) (s : State) : Host.Outcome State Fault Refusal :=
  if s.st = .sending then
    if f = s.latch.request then .next s.send else .refused .notLatchedRequest
  else .refused .notSending

/-- Success of a single-shot operation (R81): PORT_READ writes RESULT, no other operation does. -/
def State.succeed (p : Response) (s : State) : State :=
  if s.latch.op = .portRead then (s.setResult p.data).enter .success else s.enter .success

/-- The receive step on the read result `r` (R80, R81). -/
def State.await (r : List Byte) (s : State) : State :=
  let s' := (s.rxRead r).decodeRsp s.latch.dbg r
  match validate r with
  | .error e => s'.raise e.kind
  | .ok p => if p.code = s.latch.op.expect then s'.succeed p else s'.raise .commandFailed

/-- The listen step on the read result `r` (R89, R92 to R97): DECODE with its LengthError caught. -/
def State.listen (r : List Byte) (s : State) : State :=
  let s' := (s.rxRead r).decodeRsp s.latch.dbg r
  match validate r with
  | .error (.length _) => s'.enter .success
  | .error (.checksum _) => s'.raise .checksum
  | .ok p =>
    if p.code = 254#8 then (s'.report p.addr p.data).enter .listening
    else if p.code = 255#8 then s'.raise .commandFailed
    else s'.enter .listening

/-- The SEQ step of a read that returned `r`: the receive step or the listen step, by `ST` (R80, R92). -/
def receiveStep (r : List Byte) (s : State) : Host.Outcome State Fault Refusal :=
  match s.st with
  | .idle => .refused .noReadInProgress
  | .sending => .refused .noReadInProgress
  | .success => .refused .noReadInProgress
  | .failed => .refused .noReadInProgress
  | .awaiting => .next (s.await r)
  | .listening => .next (s.listen r)

end Sys2Proof.Machine
end

