-- ==== Sys2Proof/Machine/HostCmd.lean ====
section
/-! DEFINITION. The meanings of the HOSTCMD rows: a CTRL write that starts an operation (10_state.md R31).
The reserved bits are ignored (30_encoding.md R55). -/

namespace Sys2Proof.Machine

/-- `init`: start DISCOVER (R89). -/
def execInit (_r : BitVec 2) (t d : Bool) (s : State) : Host.Outcome State Fault Refusal :=
  hostStart .discover t d s

/-- `set`: start SET (R83). -/
def execSet (_r : BitVec 2) (t d : Bool) (s : State) : Host.Outcome State Fault Refusal :=
  hostStart .set t d s

/-- `clear`: start CLEAR (R84). -/
def execClear (_r : BitVec 2) (t d : Bool) (s : State) : Host.Outcome State Fault Refusal :=
  hostStart .clear t d s

/-- `toggle`: start TOGGLE (R85). -/
def execToggle (_r : BitVec 2) (t d : Bool) (s : State) : Host.Outcome State Fault Refusal :=
  hostStart .toggle t d s

/-- `port`: start PORT_READ (R86). -/
def execPort (_r : BitVec 2) (t d : Bool) (s : State) : Host.Outcome State Fault Refusal :=
  hostStart .portRead t d s

/-- `port --set`: start PORT_WRITE (R88). -/
def execPortSet (_r : BitVec 2) (t d : Bool) (s : State) : Host.Outcome State Fault Refusal :=
  hostStart .portWrite t d s

end Sys2Proof.Machine
end

