-- ==== Sys2Proof/Machine/Request.lean ====
section
/-! DEFINITION. The meanings of the REQ rows: the send step that puts this frame on the wire (41_single_shot.md R79,
42_discovery.md R90). -/

namespace Sys2Proof.Machine

/-- SETUP, the frame (01, 01, 00, 00) of DISCOVER (R90). -/
def execSetup (s : State) : Host.Outcome State Fault Refusal :=
  sendStep ⟨0x01#8, 0x01#8, 0x00#8, 0x00#8⟩ s

/-- GET_PORT, the request of PORT_READ (R86). -/
def execGetPort (address data check : Byte) (s : State) : Host.Outcome State Fault Refusal :=
  sendStep ⟨0x02#8, address, data, check⟩ s

/-- SET_PORT, the request of PORT_WRITE (R88). -/
def execSetPort (address data check : Byte) (s : State) : Host.Outcome State Fault Refusal :=
  sendStep ⟨0x03#8, address, data, check⟩ s

/-- SET_SINGLE, the request of SET (R83). -/
def execSetSingle (address data check : Byte) (s : State) : Host.Outcome State Fault Refusal :=
  sendStep ⟨0x06#8, address, data, check⟩ s

/-- DEL_SINGLE, the request of CLEAR (R84). -/
def execDelSingle (address data check : Byte) (s : State) : Host.Outcome State Fault Refusal :=
  sendStep ⟨0x07#8, address, data, check⟩ s

/-- TOGGLE, the request of TOGGLE (R85). -/
def execToggleReq (address data check : Byte) (s : State) : Host.Outcome State Fault Refusal :=
  sendStep ⟨0x08#8, address, data, check⟩ s

end Sys2Proof.Machine
end

