-- ==== Sys2Proof/Machine/Response.lean ====
section
/-! DEFINITION. The meanings of the RSP rows: the SEQ step of a read that returned this frame (41_single_shot.md R80,
R81; 42_discovery.md R92). -/

namespace Sys2Proof.Machine

/-- TOGGLE_OK (247): success of TOGGLE (R85). -/
def execToggleOk (address data check : Byte) (s : State) : Host.Outcome State Fault Refusal :=
  receiveStep [0xF7#8, address, data, check] s

/-- DEL_SINGLE_OK (248): success of CLEAR (R84). -/
def execDelSingleOk (address data check : Byte) (s : State) : Host.Outcome State Fault Refusal :=
  receiveStep [0xF8#8, address, data, check] s

/-- SET_SINGLE_OK (249): success of SET (R83). -/
def execSetSingleOk (address data check : Byte) (s : State) : Host.Outcome State Fault Refusal :=
  receiveStep [0xF9#8, address, data, check] s

/-- SET_PORT_OK (252): success of PORT_WRITE (R88). -/
def execSetPortOk (address data check : Byte) (s : State) : Host.Outcome State Fault Refusal :=
  receiveStep [0xFC#8, address, data, check] s

/-- GET_PORT_OK (253): success of PORT_READ, `data` is the port bitmask (R86). -/
def execGetPortOk (address data check : Byte) (s : State) : Host.Outcome State Fault Refusal :=
  receiveStep [0xFD#8, address, data, check] s

/-- ANNOUNCE (254): a discovery report (R95). -/
def execAnnounce (address data check : Byte) (s : State) : Host.Outcome State Fault Refusal :=
  receiveStep [0xFE#8, address, data, check] s

/-- ERROR (255): CommandFailed in every operation (R81, R96). -/
def execError (address data check : Byte) (s : State) : Host.Outcome State Fault Refusal :=
  receiveStep [0xFF#8, address, data, check] s

end Sys2Proof.Machine
end

