-- ==== Sys2Proof/Machine/Dispatch.lean ====
section
/-! DEFINITION. One arm per instruction. -/

namespace Sys2Proof.Machine

def exec (i : Instr) (s : State) : Host.Outcome State Fault Refusal :=
  match i with
  | .init r t d => Sys2Proof.Machine.execInit r t d s
  | .set r t d => Sys2Proof.Machine.execSet r t d s
  | .clear r t d => Sys2Proof.Machine.execClear r t d s
  | .toggle r t d => Sys2Proof.Machine.execToggle r t d s
  | .port r t d => Sys2Proof.Machine.execPort r t d s
  | .portSet r t d => Sys2Proof.Machine.execPortSet r t d s
  | .setup => Sys2Proof.Machine.execSetup s
  | .getPort address data check => Sys2Proof.Machine.execGetPort address data check s
  | .setPort address data check => Sys2Proof.Machine.execSetPort address data check s
  | .setSingle address data check => Sys2Proof.Machine.execSetSingle address data check s
  | .delSingle address data check => Sys2Proof.Machine.execDelSingle address data check s
  | .toggleReq address data check => Sys2Proof.Machine.execToggleReq address data check s
  | .toggleOk address data check => Sys2Proof.Machine.execToggleOk address data check s
  | .delSingleOk address data check => Sys2Proof.Machine.execDelSingleOk address data check s
  | .setSingleOk address data check => Sys2Proof.Machine.execSetSingleOk address data check s
  | .setPortOk address data check => Sys2Proof.Machine.execSetPortOk address data check s
  | .getPortOk address data check => Sys2Proof.Machine.execGetPortOk address data check s
  | .announce address data check => Sys2Proof.Machine.execAnnounce address data check s
  | .error address data check => Sys2Proof.Machine.execError address data check s

end Sys2Proof.Machine
end

