-- ==== Sys2Proof/Machine/HostRegs.lean ====
section
/-! DEFINITION. The host's register interface (10_state.md R17 to R29): the one read and the one write operation. -/

namespace Sys2Proof.Machine

/-- What a host register holds. -/
inductive RegView where
  | value (v : Byte)
  | unwritten
  | reserved
  deriving DecidableEq, Repr

/-- A register that can be unwritten (R29). -/
def RegView.ofOption : Option Byte → RegView
  | some v => .value v
  | none => .unwritten

/-- The register at an index (the map of R17). -/
def State.reg (s : State) (index : Byte) : RegView :=
  match index.toNat with
  | 0 => .value s.ctrlByte
  | 1 => .value s.addr
  | 2 => .value s.arg
  | 3 => .value s.statusByte
  | 4 => .ofOption s.result
  | 5 => .ofOption s.rsp.rcode
  | 6 => .ofOption s.rsp.raddr
  | 7 => .ofOption s.rsp.rdata
  | 8 => .value s.rxnByte
  | 9 => .ofOption s.rx.rxb0
  | 10 => .ofOption s.rx.rxb1
  | 11 => .ofOption s.rx.rxb2
  | 12 => .ofOption s.rx.rxb3
  | 13 => .ofOption s.tx.txb0
  | 14 => .ofOption s.tx.txb1
  | 15 => .ofOption s.tx.txb2
  | 16 => .ofOption s.tx.txb3
  | _ => .reserved

/-- A host read (R17, R29): the value goes to the host; no register there, refused; an unwritten register faults, as R29
orders ("A model must not give such a read a value: it treats the read as a fault"; R114, R122, 92 D16, 93 I1, 95 V62). -/
def hostRead (index : Byte) (s : State) : Host.Outcome State Fault Refusal :=
  match s.reg index with
  | .value v => .next { s with hostReads := s.hostReads ++ [(index, v)] }
  | .unwritten => .fault (.unwrittenRead index)
  | .reserved => .refused (.reservedIndex index)

/-- A host write to any index but a start command (R17 to R20): CTRL, ADDR and ARG take the value, a read-only register
ignores it, and an index past 16 is refused. CTRL[6:5] are ignored (R18). -/
def hostWrite (index value : Byte) (s : State) : Host.Outcome State Fault Refusal :=
  if index = 0x00#8 then
    .next (s.writeCtrl (value.extractLsb' 0 3) (value.getLsbD 3) (value.getLsbD 4))
  else if index = 0x01#8 then .next { s with addr := value }
  else if index = 0x02#8 then .next { s with arg := value }
  else if index.toNat ≤ 16 then .next s
  else .refused (.reservedIndex index)

end Sys2Proof.Machine
end

