-- ==== Sys2Proof/Machine/Fetch.lean ====
section
/-! DEFINITION. Which agent moves next and what it does (10_state.md R16, 20_memory.md R40 to R43, R49): the move is an
instruction of the table to run, or an outcome that is no instruction's. -/

namespace Sys2Proof.Machine

/-- The next move. -/
inductive Move where
  | run (i : Instr) (s : State)
  | done (o : Host.Outcome State Fault Refusal)

/-- The fairness of R121, "when `L_TMO` is finite, every `RxRead` eventually returns": the timer of a read runs out once
every move of `forever` has had its turn since the read began, so that nothing new can end it first (log 4). -/
def State.timerDue (s : State) : Bool :=
  s.inputs.isEmpty && s.timerArmed && decide (s.forever.length ≤ s.waited)

/-- The move made next: the first of `inputs`, then those of `forever`, over and over (log 2), and the timer's end when it
is due. -/
def State.nextInput (s : State) : Option Input :=
  match s.inputs with
  | x :: _ => some x
  | [] => if s.timerDue then some .expire else s.forever.head?

/-- The next move is one of `forever`. -/
def State.foreverTurn (s : State) : Bool := s.inputs.isEmpty && !s.timerDue && !s.forever.isEmpty

/-- `s` with that move taken. A move of `forever` comes again after the others of it; the timer's end is in no list. -/
def State.consumed (s : State) : State :=
  { s with
    inputs := s.inputs.tail
    forever := if s.foreverTurn then s.forever.tail ++ s.forever.take 1 else s.forever
    waited := if s.foreverTurn then s.waited + 1 else s.waited }

/-- A read in progress returns: it takes the next up to four queued bytes (R40, R42, R46), and the wait is over. A frame that is a row of the
table runs as that instruction; any other result goes through the same receive operation (30_encoding.md R65, R66). -/
def deliver (s : State) : Move :=
  let r := s.rxQueue.take 4
  let s' := { s with rxQueue := s.rxQueue.drop 4, waited := 0 }
  match r with
  | [b0, b1, b2, b3] =>
    match Sys2Proof.decodeRsp ⟨b0, b1, b2, b3⟩ with
    | .ok i => .run i s'
    | .error _ => .done (receiveStep r s')
  | _ => .done (receiveStep r s')

/-- A step of SEQ. In IDLE, SUCCESS and FAILED it takes none (60_exceptions.md R103, R110). In SENDING it sends the
latched request, and the wait for the answer begins. A read returns once four bytes are queued; with fewer it waits (R40),
until the timer's end or a disconnect, which are moves of their own. -/
def seqMove (s : State) : Move :=
  match s.st with
  | .idle => .done (.next s)
  | .success => .done (.next s)
  | .failed => .done (.next s)
  | .sending => .run s.latch.requestInstr { s with waited := 0 }
  | .awaiting => if 4 ≤ s.rxQueue.length then deliver s else .done (.next s)
  | .listening => if 4 ≤ s.rxQueue.length then deliver s else .done (.next s)

/-- A host write: a CTRL value with START = 1 is an instruction (30_encoding.md R55), a reserved OP refuses (R63), any
other write is a plain one. -/
def writeMove (index value : Byte) (s : State) : Move :=
  if index = 0x00#8 ∧ value.getLsbD 7 = true then
    match Sys2Proof.decodeHost value with
    | .ok i => .run i s
    | .error _ => .done (.refused (.reservedOp (value.extractLsb' 0 3)))
  else .done (hostWrite index value s)

/-- One input. The timer's end acts only on a read whose timer is armed, a disconnect only on a read in progress; either
ends that read with the bytes that have arrived (R40, R41, R106; log 4, log 6). -/
def inputMove (x : Input) (s : State) : Move :=
  match x with
  | .write index value => writeMove index value s
  | .read index => .done (hostRead index s)
  | .reset => .done (.next s.resetBy)
  | .arrive bytes => .done (.next { s with rxQueue := s.rxQueue ++ bytes })
  | .arriveAny => .done (.next { s with rxQueue := s.rxQueue ++ Config.arrival s.draws, draws := s.draws + 1 })
  | .expire => if s.timerArmed then deliver s else .done (.next s)
  | .disconnect => if s.st.reading then deliver s else .done (.next s)
  | .seq => seqMove s

/-- The next move: an agent's, or SEQ's own step when none is listed (log 2). -/
def nextMove (s : State) : Move :=
  match s.nextInput with
  | none => seqMove s
  | some x => inputMove x s.consumed

/-- The latch that builds the request frame `f`, as near as a latch can (`withFetchWord`; log 13, log 19). What `f` does
not fix is kept from the latch before. -/
def latchFor (f : Frame) (old : Latch) : Latch :=
  let dbg := old.dbg
  let tmo := old.tmo
  let index : Byte :=
    if f.b2 = 0x02#8 then 1#8
    else if f.b2 = 0x04#8 then 2#8
    else if f.b2 = 0x08#8 then 3#8
    else if f.b2 = 0x10#8 then 4#8
    else if f.b2 = 0x20#8 then 5#8
    else if f.b2 = 0x40#8 then 6#8
    else if f.b2 = 0x80#8 then 7#8
    else 0#8
  if f.b0 = 0x02#8 then ⟨.portRead, f.b1, 0#8, dbg, tmo⟩
  else if f.b0 = 0x03#8 then ⟨.portWrite, f.b1, f.b2, dbg, tmo⟩
  else if f.b0 = 0x06#8 then ⟨.set, f.b1, index, dbg, tmo⟩
  else if f.b0 = 0x07#8 then ⟨.clear, f.b1, index, dbg, tmo⟩
  else if f.b0 = 0x08#8 then ⟨.toggle, f.b1, index, dbg, tmo⟩
  else ⟨.discover, 0#8, 0#8, dbg, tmo⟩

/-- The operation that reads the response code `c` as its own (R60); DISCOVER for ANNOUNCE, ERROR and the rest. -/
def readerOf (c : Byte) : Op :=
  if c = 0xF7#8 then .toggle
  else if c = 0xF8#8 then .clear
  else if c = 0xF9#8 then .set
  else if c = 0xFC#8 then .portWrite
  else if c = 0xFD#8 then .portRead
  else .discover

/-- A state whose next step sends the request that `f` is (log 19). -/
def State.aboutToSend (f : Frame) (s : State) : State :=
  { s with st := .sending, latch := latchFor f s.latch, inputs := .seq :: s.inputs }

/-- A state whose next step reads the frame `f` (log 19). A read already in progress is kept; otherwise the operation
that reads `f` as its own is put in its receive or listen step. -/
def State.aboutToRead (f : Frame) (s : State) : State :=
  let s' := { s with rxQueue := f.toList ++ s.rxQueue, inputs := .seq :: s.inputs }
  if s.st.reading then s'
  else
    let op := readerOf f.b0
    { s' with
      st := op.afterSend
      latch := ⟨op, s.addr, s.arg, s.ctrl.dbg, effectiveTimeout s.ctrl.tmoen op⟩ }

/-- `s` with an instruction of the table placed where the next step takes it (log 19): a CTRL byte as the host's next
write, a request as the one SEQ is about to send, a response as the bytes of the read in progress. -/
def State.placeWord (s : State) (nbits w : Nat) : State :=
  if nbits = 8 then { s with inputs := .write 0x00#8 (BitVec.ofNat 8 w) :: s.inputs }
  else if nbits = 32 then
    let f := frameOfWord w
    match Sys2Proof.decodeReq f with
    | .ok _ => s.aboutToSend f
    | .error _ => s.aboutToRead f
  else s

end Sys2Proof.Machine
end

