-- ==== Sys2Proof/Machine/Step.lean ====
section
/-! DEFINITION. One step of the machine: the next move, run. -/

namespace Sys2Proof.Machine

/-- One step (R16, R49): one move of one agent. -/
def step (s : State) : Host.Outcome State Fault Refusal :=
  match nextMove s with
  | .run i s' => exec i s'
  | .done o => o

/-- `s` with the instruction whose bits are `w` placed so that the next step runs it (log 19). -/
def State.withFetchWord (s : State) (nbits w : Nat) : State := s.placeWord nbits w

end Sys2Proof.Machine
end

