-- ==== Sys2Proof/Machine/Cli.lean ====
section
/-! DEFINITION. The syntax of operations and its expansion to host register writes (30_encoding.md R67). Checking that
RELAY is 1 to 8 is outside the block (00_scope.md R6, R57). -/

namespace Sys2Proof.Machine

/-- The subcommands of R67. -/
inductive CliCommand where
  | init
  | set (relay : Nat)
  | clear (relay : Nat)
  | toggle (relay : Nat)
  | port
  | portSet (value : Byte)
  deriving DecidableEq, Repr

/-- One line of R67; `address` is 0 when no `--address` is given. -/
structure CliLine where
  address : Byte
  timeout : Bool
  debug : Bool
  command : CliCommand
  deriving DecidableEq, Repr

/-- The operation of a subcommand (R62). -/
def CliCommand.op : CliCommand → Op
  | .init => .discover
  | .set _ => .set
  | .clear _ => .clear
  | .toggle _ => .toggle
  | .port => .portRead
  | .portSet _ => .portWrite

/-- What a line writes to `ARG` (R67, R57). -/
def CliCommand.arg : CliCommand → Byte
  | .init => 0x00#8
  | .set relay => BitVec.ofNat 8 (relay - 1)
  | .clear relay => BitVec.ofNat 8 (relay - 1)
  | .toggle relay => BitVec.ofNat 8 (relay - 1)
  | .port => 0x00#8
  | .portSet value => value

/-- The host register writes of a line: ADDR, ARG, then CTRL with START = 1 (R67, R112). -/
def CliLine.expand (c : CliLine) : List Input :=
  [.write 0x01#8 c.address, .write 0x02#8 c.command.arg,
   .write 0x00#8 (Sys2Proof.hostByte c.command.op.code 0#2 c.timeout c.debug)]

end Sys2Proof.Machine
end

