-- ==== Sys2Proof/Safety.lean ====
section
/-! DEFINITION. What the claims call a sound state: the register invariant of the block, the launch premises of
70_reset_and_hazards.md R123, and what two runs may be compared by. -/

namespace Sys2Proof.Machine

/-- The four receive registers agree with `RXN`: at most 4, and `RXBi` is written exactly when `i < RXN` (R27). -/
structure RxRegs.Sound (x : RxRegs) : Prop where
  atMostFour : x.rxn.toNat ≤ 4
  byte0 : x.rxb0.isSome = true ↔ 0 < x.rxn.toNat
  byte1 : x.rxb1.isSome = true ↔ 1 < x.rxn.toNat
  byte2 : x.rxb2.isSome = true ↔ 2 < x.rxn.toNat
  byte3 : x.rxb3.isSome = true ↔ 3 < x.rxn.toNat

/-- What the registers of the block hold together, in every state a run can reach. -/
structure State.Inv (s : State) : Prop where
  /-- `ERR = NONE` in every state except FAILED, and FAILED has an error (R23, R101). -/
  errOnlyFailed : s.err = .none ↔ s.st ≠ .failed
  /-- AWAITING belongs to the single-shot operations (R79). -/
  awaitingSingleShot : s.st = .awaiting → s.latch.op ≠ .discover
  /-- LISTENING belongs to DISCOVER (R90). -/
  listeningDiscover : s.st = .listening → s.latch.op = .discover
  /-- DISCOVER's timeout is always finite (R89, R91). -/
  discoverFinite : s.st ≠ .idle → s.latch.op = .discover → s.latch.tmo.finite = true
  /-- `RXN` and `RXB0` to `RXB3` agree (R27). -/
  rxSound : s.rx.Sound
  /-- Before the send step nothing of this operation is written (R31). -/
  unwrittenBeforeSend : s.st = .idle ∨ s.st = .sending →
    s.tx = TxRegs.unwritten ∧ s.rsp = RspRegs.unwritten ∧ s.rx = RxRegs.cleared ∧ s.result = none
  /-- After it `TXB0` to `TXB3` hold the request the latches build (R28, R56). -/
  txIsRequest : s.st ≠ .idle → s.st ≠ .sending →
    s.tx = ⟨some s.latch.request.b0, some s.latch.request.b1, some s.latch.request.b2, some s.latch.request.b3⟩
  /-- RESULT is written exactly after a successful PORT_READ, and is that response's data (R25, R86). -/
  resultPortRead : s.result.isSome = true ↔ s.st = .success ∧ s.latch.op = .portRead
  resultIsData : s.result.isSome = true → s.result = s.rsp.rdata
  /-- A single-shot SUCCESS holds the code its operation accepts (R81). -/
  successCode : s.latch.op ≠ .discover → s.st = .success → s.rsp.rcode = some s.latch.op.expect
  /-- What each error leaves recorded (R99). -/
  lengthRecord : s.err = .length → s.rx.rxn.toNat ≤ 3
  checksumRecord : s.err = .checksum → s.rx.rxn = 4#3
  commandRecord : s.err = .commandFailed → s.rsp.rcode.isSome = true
  /-- Every frame sent satisfies the checksum invariant (R53) and carries a request opcode (R59). -/
  txlogValid : ∀ f ∈ s.txlog, f.b3 = f.b0 ^^^ f.b1 ^^^ f.b2 ∧
    f.b0 ∈ [0x01#8, 0x02#8, 0x03#8, 0x06#8, 0x07#8, 0x08#8]
  /-- Every read returned at most 4 bytes (R40, R47). -/
  rxlogShort : ∀ r ∈ s.rxlog, r.length ≤ 4

/-- The FCS is in the reset state of R34: every field of the block at its reset value, the latches at the one the model
names (log 8). The transport's queue, the other agents' moves and the host's record are not the block's. -/
abbrev State.atReset (s : State) : Prop :=
  { s with rxQueue := State.reset.rxQueue, inputs := State.reset.inputs, forever := State.reset.forever,
           waited := State.reset.waited, hostReads := State.reset.hostReads, draws := State.reset.draws } = State.reset

/-- What the host may do while BUSY = 1 without ending the operation (R122): no reset, no write that starts one, no read but
of CTRL, ADDR, ARG and STATUS. Every move of the other agents is allowed. -/
def Input.allowedWhileBusy : Input → Prop
  | .write index value => index.toNat ≤ 16 ∧ (index = 0x00#8 → value.getLsbD 7 = false)
  | .read index => index.toNat ≤ 3
  | .reset => False
  | .arrive _ => True
  | .arriveAny => True
  | .expire => True
  | .disconnect => True
  | .seq => True

/-- Launch premise `clean` (R123): the reset state, or SUCCESS or FAILED after an earlier operation. -/
def State.clean (s : State) : Prop := s.atReset ∨ s.st = .success ∨ s.st = .failed

/-- Launch premise `no_fault` (R123), of the outcome of everything before the launch. A fault is recorded as that outcome,
and no state comes after it (93 part 1: "the state is never final"). -/
def noFault (before : Host.Outcome State Fault Refusal) : Prop := ∀ f, before ≠ .fault f

/-- Launch premise `queue_empty` (R123, R117), optional and not guaranteed. -/
def State.queueEmpty (s : State) : Prop := s.rxQueue = []

/-- Launch premise `finite_tmo` (R123): `CTRL.TMOEN = 1` or `OP = 0`. -/
def finiteTmo (tmoen : Bool) (op : Op) : Prop := tmoen = true ∨ op = .discover

/-- The launch premises of an operation that a termination claim relies on (R123), as named fields: `before` is the outcome
of everything before the launch and `s` the state it is launched in. -/
structure Launch (before : Host.Outcome State Fault Refusal) (s : State) (tmoen : Bool) (op : Op) : Prop where
  noFault : noFault before
  launched : before = .next s
  clean : s.clean
  finiteTmo : finiteTmo tmoen op

/-- The three formats of the opcode table (30_encoding.md R53 to R55). -/
inductive Format where
  | hostCmd
  | req
  | rsp
  deriving DecidableEq, Repr

/-- The format of each instruction's row. -/
def formatOf : Instr → Format
  | .init _ _ _ => .hostCmd
  | .set _ _ _ => .hostCmd
  | .clear _ _ _ => .hostCmd
  | .toggle _ _ _ => .hostCmd
  | .port _ _ _ => .hostCmd
  | .portSet _ _ _ => .hostCmd
  | .setup => .req
  | .getPort _ _ _ => .req
  | .setPort _ _ _ => .req
  | .setSingle _ _ _ => .req
  | .delSingle _ _ _ => .req
  | .toggleReq _ _ _ => .req
  | .toggleOk _ _ _ => .rsp
  | .delSingleOk _ _ _ => .rsp
  | .setSingleOk _ _ _ => .rsp
  | .setPortOk _ _ _ => .rsp
  | .getPortOk _ _ _ => .rsp
  | .announce _ _ _ => .rsp
  | .error _ _ _ => .rsp

/-- A next state changed by `f`; a fault and a refusal as they are. -/
def mapNext (f : State → State) : Host.Outcome State Fault Refusal → Host.Outcome State Fault Refusal
  | .next s => .next (f s)
  | .fault r => .fault r
  | .refused r => .refused r

/-- `s` with other values in the host's writable registers (R30, R52). -/
def State.withHostRegs (c : Ctrl) (a g : Byte) (s : State) : State := { s with ctrl := c, addr := a, arg := g }

/-- `s` with another `L_DBG` (R109). -/
def State.withDbg (b : Bool) (s : State) : State :=
  { s with latch := { s.latch with dbg := b } }

/-- What is left of `s` when `L_DBG` and `ECHOES` are not looked at (R109). -/
def State.butEchoes (s : State) : State := { s.withDbg false with echoes := [] }

end Sys2Proof.Machine
end

