-- ==== Sys2Proof/Certificates/Slice0/Obligations.lean ====
section
/-! DEFINITION. The statements about the model, each from the numbered rules of spec/. The block has no memory
(20_memory.md R35), so no frame speaks of bytes of memory; the transport's receive queue stands in its place. -/

open Sys2Proof Sys2Proof.Machine

/-! ### Reset and the register map -/

/-- 10_state.md R34: the reset value of every piece of FCS state. `STATUS` then reads 0x00. The latches are unwritten and
read only after a START writes them: in IDLE, whatever stands in them changes nothing that a step does. -/
def Obligations.ResetLeavesEverySpecValue : Prop :=
  State.reset.ctrl = ⟨0#3, false, false⟩ ∧ State.reset.addr = 0x00#8 ∧ State.reset.arg = 0x00#8 ∧
  State.reset.st = .idle ∧ State.reset.err = .none ∧ State.reset.busy = false ∧ State.reset.done = false ∧
  State.reset.rx = ⟨0#3, none, none, none, none⟩ ∧ State.reset.result = none ∧
  State.reset.rsp = ⟨none, none, none⟩ ∧ State.reset.tx = ⟨none, none, none, none⟩ ∧
  State.reset.reports = [] ∧ State.reset.echoes = [] ∧ State.reset.txlog = [] ∧ State.reset.rxlog = [] ∧
  State.reset.statusByte = 0x00#8 ∧
  (∀ (s : State) (l : Latch), s.st = .idle →
    step { s with latch := l } = step s ∨
    step { s with latch := l } = mapNext (fun t => { t with latch := l }) (step s))

/-- 70_reset_and_hazards.md R111: a reset by the host puts every piece of FCS state at its reset value, also in the
middle of an operation. The latches, which R34 calls unwritten there, are at the value the model names
(log 8). A reset with no operation running leaves the transport's queue (log 9); after one that aborts an operation
nothing is said of the queue (the rule leaves it unspecified). It keeps the moves (log 10) and the host's record (log 11). -/
def Obligations.HostResetRestoresResetState : Prop :=
  ∀ s : State, s.nextInput = some .reset →
    ∃ t, step s = .next t ∧ t.atReset ∧ t.inputs = s.consumed.inputs ∧ t.forever = s.consumed.forever ∧
      t.hostReads = s.hostReads ∧ (s.busy = false → t.rxQueue = s.rxQueue)

/-- 10_state.md R21 (fields), R22 and R23 (values): the bits of `STATUS` in every state. -/
def Obligations.StatusBitsFollowStateAndError : Prop :=
  ∀ s : State,
    s.statusByte.extractLsb' 0 3 = (match s.st with
      | .idle => 0#3 | .sending => 1#3 | .awaiting => 2#3 | .listening => 3#3 | .success => 4#3 | .failed => 5#3) ∧
    s.statusByte.getLsbD 3 = false ∧
    s.statusByte.extractLsb' 4 2 = (match s.err with
      | .none => 0#2 | .length => 1#2 | .checksum => 2#2 | .commandFailed => 3#2) ∧
    (s.statusByte.getLsbD 6 = true ↔ s.st = .sending ∨ s.st = .awaiting ∨ s.st = .listening) ∧
    (s.statusByte.getLsbD 7 = true ↔ s.st = .success ∨ s.st = .failed)

/-- 10_state.md R17 and R29: what a host read of each index gives, and that it changes nothing in the block: a register
with a value gives it, an unwritten one faults, an index past 16 is refused. That a read while BUSY = 1 gives the
register's current value is the model's (log 15; R105 lets the host read, R114 tells it not to rely on indices 4 to 16
then); that the value is recorded in `hostReads` is log 11. -/
def Obligations.HostReadGivesTheRegister : Prop :=
  ∀ (s : State) (i : Byte), s.nextInput = some (.read i) →
    let gives : Byte → Host.Outcome State Fault Refusal := fun v =>
      .next { s.consumed with hostReads := s.hostReads ++ [(i, v)] }
    let givesIfWritten : Option Byte → Host.Outcome State Fault Refusal := fun o =>
      match o with
      | some v => gives v
      | none => .fault (.unwrittenRead i)
    (i = 0 → step s = gives (0#3 ++ BitVec.ofBool s.ctrl.tmoen ++ BitVec.ofBool s.ctrl.dbg ++ s.ctrl.op)) ∧
    (i = 1 → step s = gives s.addr) ∧
    (i = 2 → step s = gives s.arg) ∧
    (i = 3 → step s = gives s.statusByte) ∧
    (i = 4 → step s = givesIfWritten s.result) ∧
    (i = 5 → step s = givesIfWritten s.rsp.rcode) ∧
    (i = 6 → step s = givesIfWritten s.rsp.raddr) ∧
    (i = 7 → step s = givesIfWritten s.rsp.rdata) ∧
    (i = 8 → step s = gives (0#5 ++ s.rx.rxn)) ∧
    (i = 9 → step s = givesIfWritten s.rx.rxb0) ∧
    (i = 10 → step s = givesIfWritten s.rx.rxb1) ∧
    (i = 11 → step s = givesIfWritten s.rx.rxb2) ∧
    (i = 12 → step s = givesIfWritten s.rx.rxb3) ∧
    (i = 13 → step s = givesIfWritten s.tx.txb0) ∧
    (i = 14 → step s = givesIfWritten s.tx.txb1) ∧
    (i = 15 → step s = givesIfWritten s.tx.txb2) ∧
    (i = 16 → step s = givesIfWritten s.tx.txb3) ∧
    (16 < i.toNat → step s = .refused (.reservedIndex i))

/-- 10_state.md R17 to R20: what a host write that is no start command does at each index. CTRL[6:5] are ignored, a
read-only register is left as it is, an index past 16 is refused. -/
def Obligations.HostWriteReachesOnlyItsRegister : Prop :=
  ∀ (s : State) (i v : Byte), s.nextInput = some (.write i v) →
    (i = 0 → v.getLsbD 7 = false →
      step s = .next { s.consumed with ctrl := ⟨v.extractLsb' 0 3, v.getLsbD 3, v.getLsbD 4⟩ }) ∧
    (i = 1 → step s = .next { s.consumed with addr := v }) ∧
    (i = 2 → step s = .next { s.consumed with arg := v }) ∧
    (3 ≤ i.toNat → i.toNat ≤ 16 → step s = .next s.consumed) ∧
    (16 < i.toNat → step s = .refused (.reservedIndex i))

/-- 10_state.md R18: whatever byte is written to CTRL, and whether or not it starts an operation, if the machine goes on
then CTRL reads back its bits 4:0 with bits 7:5 zero. -/
def Obligations.CtrlReadsBackItsLowFiveBits : Prop :=
  ∀ (s t : State) (v : Byte), s.nextInput = some (.write 0 v) → step s = .next t →
    t.ctrlByte = v &&& 0x1F#8 ∧ t.inputs = s.consumed.inputs ∧ t.forever = s.consumed.forever

/-! ### Codec -/

/-- 40_codec.md R69: CHECKSUM is the XOR of its three bytes, with the rule's corner cases and its example. -/
def Obligations.ChecksumIsXorOfThree : Prop :=
  (∀ c a d : Byte, checksum c a d = c ^^^ a ^^^ d) ∧ checksum 0 0 0 = 0x00#8 ∧ checksum 0xFF 0xFF 0xFF = 0xFF#8 ∧
  (∀ x d : Byte, checksum x x d = d) ∧ checksum 0x06 0x05 0x01 = 0x02#8

/-- 40_codec.md R76: ENCODE's fourth byte is the XOR, DECODE gives the three bytes back, four bytes with another checksum
are a ChecksumError, and a list of another length is a LengthError. -/
def Obligations.DecodeInvertsEncode : Prop :=
  (∀ c a d : Byte, (packFrame c a d).b3 = c ^^^ a ^^^ d ∧ validate (packFrame c a d).toList = .ok ⟨c, a, d⟩) ∧
  (∀ b0 b1 b2 b3 : Byte, b3 ≠ b0 ^^^ b1 ^^^ b2 →
    validate [b0, b1, b2, b3] = .error (.checksum ⟨b0, b1, b2, b3⟩)) ∧
  (∀ r : List Byte, r.length ≠ 4 → validate r = .error (.length r.length))

/-- 40_codec.md R77: exactly 2^24 of the 2^32 four-byte lists pass; a change of one byte is always detected; flipping the
same bit positions in two bytes or in all four never is; a window passes exactly when its bytes XOR to 0. -/
def Obligations.ChecksumStrengthIsExactlyXor : Prop :=
  Nat.card {f : Frame // ∃ p, validate f.toList = .ok p} = 2 ^ 24 ∧
  (∀ b0 b1 b2 b3 m : Byte, b0 ^^^ b1 ^^^ b2 ^^^ b3 = 0 → m ≠ 0 →
    validate [b0 ^^^ m, b1, b2, b3] = .error (.checksum ⟨b0 ^^^ m, b1, b2, b3⟩) ∧
    validate [b0, b1 ^^^ m, b2, b3] = .error (.checksum ⟨b0, b1 ^^^ m, b2, b3⟩) ∧
    validate [b0, b1, b2 ^^^ m, b3] = .error (.checksum ⟨b0, b1, b2 ^^^ m, b3⟩) ∧
    validate [b0, b1, b2, b3 ^^^ m] = .error (.checksum ⟨b0, b1, b2, b3 ^^^ m⟩)) ∧
  (∀ b0 b1 b2 b3 m : Byte, b0 ^^^ b1 ^^^ b2 ^^^ b3 = 0 →
    validate [b0 ^^^ m, b1 ^^^ m, b2, b3] = .ok ⟨b0 ^^^ m, b1 ^^^ m, b2⟩ ∧
    validate [b0 ^^^ m, b1, b2 ^^^ m, b3] = .ok ⟨b0 ^^^ m, b1, b2 ^^^ m⟩ ∧
    validate [b0 ^^^ m, b1, b2, b3 ^^^ m] = .ok ⟨b0 ^^^ m, b1, b2⟩ ∧
    validate [b0, b1 ^^^ m, b2 ^^^ m, b3] = .ok ⟨b0, b1 ^^^ m, b2 ^^^ m⟩ ∧
    validate [b0, b1 ^^^ m, b2, b3 ^^^ m] = .ok ⟨b0, b1 ^^^ m, b2⟩ ∧
    validate [b0, b1, b2 ^^^ m, b3 ^^^ m] = .ok ⟨b0, b1, b2 ^^^ m⟩ ∧
    validate [b0 ^^^ m, b1 ^^^ m, b2 ^^^ m, b3 ^^^ m] = .ok ⟨b0 ^^^ m, b1 ^^^ m, b2 ^^^ m⟩) ∧
  (∀ b0 b1 b2 b3 : Byte, (∃ p, validate [b0, b1, b2, b3] = .ok p) ↔ b0 ^^^ b1 ^^^ b2 ^^^ b3 = 0)

/-- 20_memory.md R46 with 40_codec.md R77 (the lost byte of 95 P5): of two valid frames joined with the first byte lost,
the window passes exactly when both frames begin with the same byte. -/
def Obligations.LostByteWindowPassesOnEqualCodes : Prop :=
  ∀ f g : Frame, (∃ p, validate f.toList = .ok p) → (∃ p, validate g.toList = .ok p) →
    ((∃ p, validate [f.b1, f.b2, f.b3, g.b0] = .ok p) ↔ f.b0 = g.b0)

/-! ### Encoding and operands -/

/-- Decoding the encoding of any instruction gives it back, every operand at every value (R53 to R55, R59, R60, R62). -/
def Obligations.DecodeEncodeAgree : Prop := ∀ i : Instr, decode (encode i) = .ok i

/-- What the decoder accepts is exactly the encoding of what it answers: no bit is dropped. -/
def Obligations.EncodeDecodeAgree : Prop := ∀ (bs : List Byte) (i : Instr), decode bs = .ok i → encode i = bs

/-- Words written out from the encoding tables (R55, R59, R60, R62) decode to the rows they stand for. -/
def Obligations.SpecWordsDecode : Prop :=
  decode [0x80#8] = .ok (.init 0#2 false false) ∧ decode [0x91#8] = .ok (.set 0#2 true false) ∧
  decode [0x8D#8] = .ok (.portSet 0#2 false true) ∧ decode [0xE4#8] = .ok (.port 3#2 false false) ∧
  decode [0x01#8, 0x01#8, 0x00#8, 0x00#8] = .ok .setup ∧
  decode [0x06#8, 0x05#8, 0x01#8, 0x02#8] = .ok (.setSingle 0x05 0x01 0x02) ∧
  decode [0x03#8, 0x05#8, 0xA5#8, 0xA3#8] = .ok (.setPort 0x05 0xA5 0xA3) ∧
  decode [0xF9#8, 0x05#8, 0x01#8, 0xFD#8] = .ok (.setSingleOk 0x05 0x01 0xFD) ∧
  decode [0xFE#8, 0x01#8, 0x03#8, 0xFC#8] = .ok (.announce 0x01 0x03 0xFC)

/-- What the decoder refuses, by name: a CTRL byte without START, the reserved OP 6 and 7 (R63), and any length but one
and four. A CTRL byte with START and OP 0 to 5 is a start command. -/
def Obligations.ReservedEncodingsAreRejected : Prop :=
  (∀ v : Byte, v.getLsbD 7 = false → decode [v] = .error (.notStart v)) ∧
  (∀ v : Byte, v.getLsbD 7 = true → 6 ≤ (v.extractLsb' 0 3).toNat →
    decode [v] = .error (.reservedOp (v.extractLsb' 0 3))) ∧
  (∀ v : Byte, v.getLsbD 7 = true → (v.extractLsb' 0 3).toNat < 6 → ∃ i, decode [v] = .ok i ∧ formatOf i = .hostCmd) ∧
  (∀ bs : List Byte, bs.length ≠ 1 → bs.length ≠ 4 → decode bs = .error (.badLength bs.length))

/-- 30_encoding.md R56: the request each operation builds from its latches, whatever they hold. -/
def Obligations.OperandAssemblyFollowsTheTable : Prop :=
  ∀ (addr arg : Byte) (dbg : Bool) (tmo : Timeout),
    let bit : Byte := 1#8 <<< (arg &&& 0x07#8).toNat
    let req : Byte → Byte → Byte → Frame := fun c a d => ⟨c, a, d, c ^^^ a ^^^ d⟩
    (⟨.discover, addr, arg, dbg, tmo⟩ : Latch).request = req 0x01 0x01 0x00 ∧
    (⟨.set, addr, arg, dbg, tmo⟩ : Latch).request = req 0x06 addr bit ∧
    (⟨.clear, addr, arg, dbg, tmo⟩ : Latch).request = req 0x07 addr bit ∧
    (⟨.toggle, addr, arg, dbg, tmo⟩ : Latch).request = req 0x08 addr bit ∧
    (⟨.portRead, addr, arg, dbg, tmo⟩ : Latch).request = req 0x02 addr 0x00 ∧
    (⟨.portWrite, addr, arg, dbg, tmo⟩ : Latch).request = req 0x03 addr arg

/-- The request SEQ runs in SENDING is well formed, and its encoding is the frame the latches build (R53, R56). -/
def Obligations.LatchedRequestIsWellFormed : Prop :=
  ∀ l : Latch, l.requestInstr.wf = true ∧ encode l.requestInstr = l.request.toList ∧ formatOf l.requestInstr = .req

/-- 30_encoding.md R57: a relay selector has exactly the one bit of its relay set, so it puts on that relay alone. -/
def Obligations.RelaySelectorIsOneBit : Prop :=
  (∀ i j : BitVec 3, relayOn (relayBit i) j = decide (i = j)) ∧
  relayBit 0 = 0x01#8 ∧ relayBit 1 = 0x02#8 ∧ relayBit 2 = 0x04#8 ∧ relayBit 3 = 0x08#8 ∧
  relayBit 4 = 0x10#8 ∧ relayBit 5 = 0x20#8 ∧ relayBit 6 = 0x40#8 ∧ relayBit 7 = 0x80#8

/-- 30_encoding.md R61: every operation accepts the complement of its command. -/
def Obligations.AcceptedCodeIsComplementOfCommand : Prop :=
  ∀ op : Op, op.expect = 0xFF#8 ^^^ op.command ∧ op.expect.toNat = 255 - op.command.toNat

/-- 30_encoding.md R67: a line of the command language expands to ADDR, ARG and a CTRL byte that decodes to its start
command with its options. RELAY runs over every number; for 0 and above 8, which the rule leaves out, ARG is the model's
(log 23: RELAY - 1 modulo 256, and 0 for RELAY 0). -/
def Obligations.CliLineExpandsToItsStartCommand : Prop :=
  ∀ (a : Byte) (t d : Bool),
    let writes : Byte → Byte → List Input := fun arg ctrl => [.write 1 a, .write 2 arg, .write 0 ctrl]
    let bits : Byte := 0x80#8 ||| (if t then 0x10#8 else 0) ||| (if d then 0x08#8 else 0)
    (CliLine.expand ⟨a, t, d, .init⟩ = writes 0 bits ∧ decode [bits] = .ok (.init 0 t d)) ∧
    (∀ n, CliLine.expand ⟨a, t, d, .set n⟩ = writes (BitVec.ofNat 8 (n - 1)) (bits ||| 1)) ∧
    decode [bits ||| 1] = .ok (.set 0 t d) ∧
    (∀ n, CliLine.expand ⟨a, t, d, .clear n⟩ = writes (BitVec.ofNat 8 (n - 1)) (bits ||| 2)) ∧
    decode [bits ||| 2] = .ok (.clear 0 t d) ∧
    (∀ n, CliLine.expand ⟨a, t, d, .toggle n⟩ = writes (BitVec.ofNat 8 (n - 1)) (bits ||| 3)) ∧
    decode [bits ||| 3] = .ok (.toggle 0 t d) ∧
    (CliLine.expand ⟨a, t, d, .port⟩ = writes 0 (bits ||| 4) ∧ decode [bits ||| 4] = .ok (.port 0 t d)) ∧
    (∀ v, CliLine.expand ⟨a, t, d, .portSet v⟩ = writes v (bits ||| 5)) ∧
    decode [bits ||| 5] = .ok (.portSet 0 t d)

/-! ### Starting an operation -/

/-- 10_state.md R30 and R31: an accepted START of each operation, the whole next state: CTRL written, the latches taken,
the per-call registers cleared, `ST = SENDING`, everything else (the streams among it) kept. -/
def Obligations.AcceptedStartLatchesAndClears : Prop :=
  ∀ (s : State) (r : BitVec 2) (t d : Bool), s.st = .idle ∨ s.st = .success ∨ s.st = .failed →
    let started : Op → BitVec 3 → Timeout → State := fun op code tmo =>
      { s with ctrl := ⟨code, d, t⟩, latch := ⟨op, s.addr, s.arg, d, tmo⟩, err := .none, st := .sending,
               rx := ⟨0#3, none, none, none, none⟩, result := none, rsp := ⟨none, none, none⟩,
               tx := ⟨none, none, none, none⟩ }
    let oneShot : Timeout := if t then .tmoVal else .none
    exec (.init r t d) s = .next (started .discover 0 (if t then .tmoVal else .discDefault)) ∧
    exec (.set r t d) s = .next (started .set 1 oneShot) ∧
    exec (.clear r t d) s = .next (started .clear 2 oneShot) ∧
    exec (.toggle r t d) s = .next (started .toggle 3 oneShot) ∧
    exec (.port r t d) s = .next (started .portRead 4 oneShot) ∧
    exec (.portSet r t d) s = .next (started .portWrite 5 oneShot)

/-- 70_reset_and_hazards.md R113: a START while BUSY is refused, for every operation. -/
def Obligations.StartWhileBusyIsRefused : Prop :=
  ∀ (i : Instr) (s : State), formatOf i = .hostCmd → s.st = .sending ∨ s.st = .awaiting ∨ s.st = .listening →
    exec i s = .refused .startWhileBusy

/-- 30_encoding.md R63: a CTRL write with START = 1 and OP 6 or 7 is refused in every state, so no frame is sent. While
BUSY = 1 both refusals hold (R31), and that `reservedOp` is the one named is the model's (log 12). -/
def Obligations.ReservedOperationIsRefused : Prop :=
  ∀ (s : State) (v : Byte), s.nextInput = some (.write 0 v) → v.getLsbD 7 = true →
    (v.extractLsb' 0 3 = 6#3 ∨ v.extractLsb' 0 3 = 7#3) →
    step s = .refused (.reservedOp (v.extractLsb' 0 3))

/-! ### Sending the request -/

/-- 42_discovery.md R90: DISCOVER sends (01, 01, 00, 00) whatever `ADDR` holds, and listens. The whole next state. -/
def Obligations.SetupIsSentToAddressOne : Prop :=
  ∀ s : State, s.st = .sending → s.latch.op = .discover →
    exec .setup s = .next
      { s with tx := ⟨some 0x01, some 0x01, some 0x00, some 0x00⟩,
               echoes := if s.latch.dbg then s.echoes ++ [⟨.tx, ⟨0x01, 0x01, 0x00, 0x00⟩⟩] else s.echoes,
               txlog := s.txlog ++ [⟨0x01, 0x01, 0x00, 0x00⟩], st := .listening }

/-- 41_single_shot.md R79 (operands of R56): the send step of each single-shot operation. The whole next state. -/
def Obligations.SingleShotRequestIsSent : Prop :=
  ∀ s : State, s.st = .sending →
    let l := s.latch
    let sent : Byte → Byte → State := fun c d =>
      let f : Frame := ⟨c, l.addr, d, c ^^^ l.addr ^^^ d⟩
      { s with tx := ⟨some f.b0, some f.b1, some f.b2, some f.b3⟩,
               echoes := if l.dbg then s.echoes ++ [⟨.tx, f⟩] else s.echoes,
               txlog := s.txlog ++ [f], st := .awaiting }
    let bit : Byte := 1#8 <<< (l.arg &&& 0x07#8).toNat
    (l.op = .set → exec (.setSingle l.addr bit (0x06 ^^^ l.addr ^^^ bit)) s = .next (sent 0x06 bit)) ∧
    (l.op = .clear → exec (.delSingle l.addr bit (0x07 ^^^ l.addr ^^^ bit)) s = .next (sent 0x07 bit)) ∧
    (l.op = .toggle → exec (.toggleReq l.addr bit (0x08 ^^^ l.addr ^^^ bit)) s = .next (sent 0x08 bit)) ∧
    (l.op = .portRead → exec (.getPort l.addr 0x00 (0x02 ^^^ l.addr ^^^ 0x00)) s = .next (sent 0x02 0x00)) ∧
    (l.op = .portWrite → exec (.setPort l.addr l.arg (0x03 ^^^ l.addr ^^^ l.arg)) s = .next (sent 0x03 l.arg))

/-- 41_single_shot.md R79, 30_encoding.md R64: a request stops outside SENDING, and in SENDING when it is not the one the
latches build (the model's choice of how to stop, log 13). -/
def Obligations.RequestStopsUnlessLatchedAndSending : Prop :=
  ∀ (i : Instr) (s : State), formatOf i = .req →
    (s.st ≠ .sending → exec i s = .refused .notSending) ∧
    (s.st = .sending → encode i ≠ s.latch.request.toList → exec i s = .refused .notLatchedRequest)

/-! ### Receiving a response -/

/-- 41_single_shot.md R83 to R86, R88 (step of R80, R81): the expected response of each single-shot operation, from any
address and with any data. The whole next state; only PORT_READ writes RESULT. -/
def Obligations.ExpectedResponseSucceeds : Prop :=
  ∀ (s : State) (a d : Byte), s.st = .awaiting →
    let done : Byte → Option Byte → State := fun c res =>
      let k := c ^^^ a ^^^ d
      { s with rx := ⟨4#3, some c, some a, some d, some k⟩, rxlog := s.rxlog ++ [[c, a, d, k]],
               echoes := if s.latch.dbg then s.echoes ++ [⟨.rx, ⟨c, a, d, k⟩⟩] else s.echoes,
               rsp := ⟨some c, some a, some d⟩, result := res, st := .success }
    (s.latch.op = .set → exec (.setSingleOk a d (249 ^^^ a ^^^ d)) s = .next (done 249 s.result)) ∧
    (s.latch.op = .clear → exec (.delSingleOk a d (248 ^^^ a ^^^ d)) s = .next (done 248 s.result)) ∧
    (s.latch.op = .toggle → exec (.toggleOk a d (247 ^^^ a ^^^ d)) s = .next (done 247 s.result)) ∧
    (s.latch.op = .portRead → exec (.getPortOk a d (253 ^^^ a ^^^ d)) s = .next (done 253 (some d))) ∧
    (s.latch.op = .portWrite → exec (.setPortOk a d (252 ^^^ a ^^^ d)) s = .next (done 252 s.result))

/-- 41_single_shot.md R81: any valid response with another code, listed or not, is CommandFailed, and its fields are
recorded. Stated of the step, so for every code. -/
def Obligations.UnexpectedCodeIsCommandFailed : Prop :=
  ∀ (s : State) (c a d : Byte) (q : List Byte), s.st = .awaiting → s.nextInput = some .seq →
    s.rxQueue = c :: a :: d :: (c ^^^ a ^^^ d) :: q → c ≠ s.latch.op.expect →
    step s = .next
      { s.consumed with
               rxQueue := q, waited := 0, rx := ⟨4#3, some c, some a, some d, some (c ^^^ a ^^^ d)⟩,
               rxlog := s.rxlog ++ [[c, a, d, c ^^^ a ^^^ d]],
               echoes := if s.latch.dbg then s.echoes ++ [⟨.rx, ⟨c, a, d, c ^^^ a ^^^ d⟩⟩] else s.echoes,
               rsp := ⟨some c, some a, some d⟩, err := .commandFailed, st := .failed }

/-- 42_discovery.md R95: an ANNOUNCE frame is reported, and DISCOVER listens on. The whole next state. -/
def Obligations.AnnounceIsReported : Prop :=
  ∀ (s : State) (a d : Byte), s.st = .listening →
    exec (.announce a d (254 ^^^ a ^^^ d)) s = .next
      { s with rx := ⟨4#3, some 254, some a, some d, some (254 ^^^ a ^^^ d)⟩,
               rxlog := s.rxlog ++ [[254, a, d, 254 ^^^ a ^^^ d]],
               echoes := if s.latch.dbg then s.echoes ++ [⟨.rx, ⟨254, a, d, 254 ^^^ a ^^^ d⟩⟩] else s.echoes,
               rsp := ⟨some 254, some a, some d⟩, reports := s.reports ++ [⟨a, d⟩], st := .listening }

/-- 42_discovery.md R96 and 41_single_shot.md R81: an ERROR frame ends every operation that can be reading it in FAILED
with COMMAND_FAILED; what is queued behind it stays queued. The whole next state. -/
def Obligations.ErrorFrameFailsEveryOperation : Prop :=
  ∀ (s : State) (a d : Byte), s.st = .listening ∨ (s.st = .awaiting ∧ s.latch.op ≠ .discover) →
    exec (.error a d (255 ^^^ a ^^^ d)) s = .next
      { s with rx := ⟨4#3, some 255, some a, some d, some (255 ^^^ a ^^^ d)⟩,
               rxlog := s.rxlog ++ [[255, a, d, 255 ^^^ a ^^^ d]],
               echoes := if s.latch.dbg then s.echoes ++ [⟨.rx, ⟨255, a, d, 255 ^^^ a ^^^ d⟩⟩] else s.echoes,
               rsp := ⟨some 255, some a, some d⟩, err := .commandFailed, st := .failed }

/-- 42_discovery.md R97: any other code, listed or not, is recorded, neither reported nor an error, and DISCOVER listens
on. Stated of the step, so for every code. -/
def Obligations.OtherCodeIsPassedThrough : Prop :=
  ∀ (s : State) (c a d : Byte) (q : List Byte), s.st = .listening → s.nextInput = some .seq →
    s.rxQueue = c :: a :: d :: (c ^^^ a ^^^ d) :: q → c ≠ 254 → c ≠ 255 →
    step s = .next
      { s.consumed with
               rxQueue := q, waited := 0, rx := ⟨4#3, some c, some a, some d, some (c ^^^ a ^^^ d)⟩,
               rxlog := s.rxlog ++ [[c, a, d, c ^^^ a ^^^ d]],
               echoes := if s.latch.dbg then s.echoes ++ [⟨.rx, ⟨c, a, d, c ^^^ a ^^^ d⟩⟩] else s.echoes,
               rsp := ⟨some c, some a, some d⟩, st := .listening }

/-- 40_codec.md R74, 42_discovery.md R94, 41_single_shot.md R80: four bytes whose checksum fails end the operation in
FAILED with CHECKSUM; their code is looked at by no one, and `RCODE`, `RADDR`, `RDATA` stay. -/
def Obligations.BadChecksumFailsTheOperation : Prop :=
  ∀ (s : State) (b0 b1 b2 b3 : Byte) (q : List Byte), s.st = .awaiting ∨ s.st = .listening →
    s.nextInput = some .seq →
    s.rxQueue = b0 :: b1 :: b2 :: b3 :: q → b3 ≠ b0 ^^^ b1 ^^^ b2 →
    step s = .next
      { s.consumed with
               rxQueue := q, waited := 0, rx := ⟨4#3, some b0, some b1, some b2, some b3⟩,
               rxlog := s.rxlog ++ [[b0, b1, b2, b3]],
               echoes := if s.latch.dbg then s.echoes ++ [⟨.rx, ⟨b0, b1, b2, b3⟩⟩] else s.echoes,
               err := .checksum, st := .failed }

/-- 42_discovery.md R93: a listen step's read that ends short, by the timeout or by a disconnect, ends DISCOVER in
SUCCESS; its bytes are recorded, neither echoed nor interpreted. -/
def Obligations.ShortReadEndsDiscovery : Prop :=
  ∀ s : State, s.st = .listening → s.rxQueue.length < 4 →
    (s.nextInput = some .expire ∧ s.latch.tmo ≠ .none) ∨ s.nextInput = some .disconnect →
    step s = .next
      { s.consumed with
               rxQueue := [], waited := 0,
               rx := ⟨BitVec.ofNat 3 s.rxQueue.length, s.rxQueue[0]?, s.rxQueue[1]?, s.rxQueue[2]?, none⟩,
               rxlog := s.rxlog ++ [s.rxQueue], st := .success }

/-- 40_codec.md R72, 41_single_shot.md R80: a read that ends short, by the timeout or by a disconnect, ends a single-shot
operation in FAILED with LENGTH; its bytes are recorded. -/
def Obligations.ShortReadFailsSingleShot : Prop :=
  ∀ s : State, s.st = .awaiting → s.rxQueue.length < 4 →
    (s.nextInput = some .expire ∧ s.latch.tmo ≠ .none) ∨ s.nextInput = some .disconnect →
    step s = .next
      { s.consumed with
               rxQueue := [], waited := 0,
               rx := ⟨BitVec.ofNat 3 s.rxQueue.length, s.rxQueue[0]?, s.rxQueue[1]?, s.rxQueue[2]?, none⟩,
               rxlog := s.rxlog ++ [s.rxQueue], err := .length, st := .failed }

/-- 60_exceptions.md R102: in a single-shot receive step the length is judged before the checksum and the checksum before
the code, whatever was read. -/
def Obligations.ChecksRunInPriorityOrder : Prop :=
  ∀ (s t : State) (r : List Byte), s.st = .awaiting → s.err = .none →
    receiveStep r s = .next t →
    (t.err = .length ↔ r.length ≠ 4) ∧
    (t.err = .checksum ↔ ∃ b0 b1 b2 b3, r = [b0, b1, b2, b3] ∧ b0 ^^^ b1 ^^^ b2 ^^^ b3 ≠ 0) ∧
    (t.err = .commandFailed ↔ ∃ b0 b1 b2 b3, r = [b0, b1, b2, b3] ∧ b0 ^^^ b1 ^^^ b2 ^^^ b3 = 0 ∧
      b0 ≠ s.latch.op.expect) ∧
    (t.err = .none ↔ t.st = .success)

/-- 60_exceptions.md R103, 20_memory.md R42: a response is refused while no read is in progress (the model's way to stop,
log 1). -/
def Obligations.ResponseStopsWithoutARead : Prop :=
  ∀ (i : Instr) (s : State), formatOf i = .rsp →
    s.st ≠ .awaiting → s.st ≠ .listening → exec i s = .refused .noReadInProgress

/-! ### Frames -/

/-- What a start command leaves unchanged (R18, R31). -/
def Obligations.HostCommandFrame : Prop :=
  ∀ (i : Instr) (s t : State), formatOf i = .hostCmd → exec i s = .next t →
    t.addr = s.addr ∧ t.arg = s.arg ∧ t.reports = s.reports ∧ t.echoes = s.echoes ∧ t.txlog = s.txlog ∧
    t.rxlog = s.rxlog ∧ t.rxQueue = s.rxQueue ∧ t.inputs = s.inputs ∧ t.forever = s.forever ∧ t.waited = s.waited ∧
    t.hostReads = s.hostReads ∧ t.draws = s.draws

/-- What a request leaves unchanged: all but the transmit registers, `ECHOES`, `TXLOG` and `ST` (R70, R79, R90). -/
def Obligations.RequestFrame : Prop :=
  ∀ (i : Instr) (s t : State), formatOf i = .req → exec i s = .next t →
    t.ctrl = s.ctrl ∧ t.addr = s.addr ∧ t.arg = s.arg ∧ t.err = s.err ∧ t.result = s.result ∧ t.rsp = s.rsp ∧
    t.rx = s.rx ∧ t.latch = s.latch ∧ t.reports = s.reports ∧ t.rxlog = s.rxlog ∧ t.rxQueue = s.rxQueue ∧
    t.inputs = s.inputs ∧ t.forever = s.forever ∧ t.waited = s.waited ∧ t.hostReads = s.hostReads ∧ t.draws = s.draws ∧
    (s.latch.dbg = false → t.echoes = s.echoes)

/-- What a response leaves unchanged (R71, R81, R89): the host's registers, the latches, the transmit side and the queue
always; the response registers when the checksum fails; RESULT unless a PORT_READ succeeds; `REPORTS` unless DISCOVER
takes an ANNOUNCE; `ERR` unless the operation fails. -/
def Obligations.ResponseFrame : Prop :=
  ∀ (i : Instr) (s t : State), formatOf i = .rsp → exec i s = .next t →
    t.ctrl = s.ctrl ∧ t.addr = s.addr ∧ t.arg = s.arg ∧ t.tx = s.tx ∧ t.latch = s.latch ∧ t.txlog = s.txlog ∧
    t.rxQueue = s.rxQueue ∧ t.inputs = s.inputs ∧ t.forever = s.forever ∧ t.waited = s.waited ∧
    t.hostReads = s.hostReads ∧ t.draws = s.draws ∧
    ((∀ p, validate (encode i) ≠ .ok p) → t.rsp = s.rsp) ∧
    (t.result = s.result ∨ (s.st = .awaiting ∧ t.st = .success ∧ s.latch.op = .portRead)) ∧
    (t.reports = s.reports ∨ (s.st = .listening ∧ t.st = .listening ∧ ∃ a d k, i = .announce a d k)) ∧
    (t.err = s.err ∨ t.st = .failed) ∧
    (s.latch.dbg = false → t.echoes = s.echoes)

/-! ### What a step runs -/

/-- A step runs the decoded instruction: the host's CTRL byte as its start command, the latched request in SENDING, and
the frame at the head of the queue as its response. Around it the step takes the move, drops the read bytes, and starts the
wait of the next read. The moves are those of `inputs`, then those of `forever` over and over (log 2), and the timer's end
when it is due (log 4). -/
def Obligations.StepRunsTheDecodedInstruction : Prop :=
  (∀ (s : State) (v : Byte) (i : Instr), s.nextInput = some (.write 0 v) → decode [v] = .ok i →
    step s = exec i s.consumed) ∧
  (∀ s : State, s.nextInput = some .seq ∨ s.nextInput = none → s.st = .sending →
    decode s.latch.request.toList = .ok s.latch.requestInstr ∧ step s = exec s.latch.requestInstr { s.consumed with waited := 0 }) ∧
  (∀ (s : State) (b0 b1 b2 b3 : Byte) (q : List Byte) (i : Instr),
    s.nextInput = some .seq ∨ s.nextInput = none ∨ (s.nextInput = some .expire ∧ s.latch.tmo ≠ .none) ∨
      s.nextInput = some .disconnect →
    s.st = .awaiting ∨ s.st = .listening → s.rxQueue = b0 :: b1 :: b2 :: b3 :: q → decode [b0, b1, b2, b3] = .ok i →
    formatOf i = .rsp → step s = exec i { s.consumed with rxQueue := q, waited := 0 }) ∧
  (∀ (s : State) (x : Input) (rest : List Input), s.inputs = x :: rest →
    s.nextInput = some x ∧ s.consumed = { s with inputs := rest }) ∧
  (∀ s : State, s.timerDue = true ↔
    s.inputs = [] ∧ (s.st = .awaiting ∨ s.st = .listening) ∧ s.latch.tmo ≠ .none ∧ s.forever.length ≤ s.waited) ∧
  (∀ s : State, s.timerDue = true → s.nextInput = some .expire ∧ s.consumed = s) ∧
  (∀ (s : State) (x : Input) (rest : List Input), s.inputs = [] → s.forever = x :: rest → s.timerDue = false →
    s.nextInput = some x ∧ s.consumed = { s with forever := rest ++ [x], waited := s.waited + 1 }) ∧
  (∀ s : State, s.inputs = [] → s.forever = [] → s.timerDue = false → s.nextInput = none ∧ s.consumed = s)

/-- 60_exceptions.md R110, R103: in IDLE, SUCCESS and FAILED no move of SEQ, and no move of the environment, changes the
block: with no move left the state stays, and a move but a host's leaves every register of the block, the latches, the
streams and the histories as they are. That a step is still answered is log 5. -/
def Obligations.IdleAndEndedTakeNoStep : Prop :=
  ∀ s : State, s.st = .idle ∨ s.st = .success ∨ s.st = .failed →
    (s.nextInput = none ∨ s.nextInput = some .seq ∨ s.nextInput = some .expire ∨ s.nextInput = some .disconnect →
      step s = .next s.consumed) ∧
    (s.nextInput = none → s.consumed = s) ∧
    (∀ bs, s.nextInput = some (.arrive bs) → step s = .next { s.consumed with rxQueue := s.rxQueue ++ bs }) ∧
    (s.nextInput = some .arriveAny → step s = .next
      { s.consumed with rxQueue := s.rxQueue ++ Config.arrival s.draws, draws := s.draws + 1 })

/-! ### Whole-machine rules -/

/-- The register invariant holds at reset. -/
def Obligations.ResetMeetsInvariant : Prop := State.reset.Inv

/-- Every step keeps the register invariant (R23, R25 to R28, R53, R59, R81, R91, R99), from every state that has it. -/
def Obligations.StepKeepsInvariant : Prop := ∀ s t : State, s.Inv → step s = .next t → t.Inv

/-- In any state the machine stops only on a host access: a fault is a read of an unwritten register
(R29); a refusal is an index past 16 (R17), a reserved OP (R63) or a START while BUSY (R113). -/
def Obligations.OnlyHostAccessesStop : Prop :=
  ∀ s : State,
    (∀ f, step s = .fault f → ∃ i, s.nextInput = some (.read i) ∧ s.reg i = .unwritten ∧ f = .unwrittenRead i) ∧
    (∀ r, step s = .refused r →
      (∃ i, s.nextInput = some (.read i) ∧ 16 < i.toNat ∧ r = .reservedIndex i) ∨
      (∃ i v, s.nextInput = some (.write i v) ∧ 16 < i.toNat ∧ r = .reservedIndex i) ∨
      (∃ v, s.nextInput = some (.write 0 v) ∧ v.getLsbD 7 = true ∧ 6 ≤ (v.extractLsb' 0 3).toNat ∧
        r = .reservedOp (v.extractLsb' 0 3)) ∨
      (∃ v, s.nextInput = some (.write 0 v) ∧ v.getLsbD 7 = true ∧ s.busy = true ∧ r = .startWhileBusy))

/-- 20_memory.md R39, R51: a frame goes out only by the step that leaves SENDING, once, and is the latched request; the
log is otherwise kept, or emptied by a reset. -/
def Obligations.FramesLeaveOnlyFromSending : Prop :=
  ∀ s t : State, step s = .next t →
    t.txlog = s.txlog ∨
    (s.st = .sending ∧ t.txlog = s.txlog ++ [s.latch.request] ∧
      t.st = (if s.latch.op = .discover then .listening else .awaiting)) ∨
    (s.nextInput = some .reset ∧ t.txlog = [])

/-- 20_memory.md R40, R42, R47: every read is made in AWAITING or LISTENING, takes the next up to four queued bytes and
records exactly them. A step that makes none leaves the log, takes nothing from the queue, and puts behind it the bytes of
an arrival, in order, and nothing on any other move (a reset apart, log 9). -/
def Obligations.EveryReadTakesTheNextFourBytes : Prop :=
  ∀ s t : State, step s = .next t → s.nextInput ≠ some .reset →
    (t.rxlog = s.rxlog ∧ t.rxQueue = s.rxQueue ++ (match s.nextInput with
      | some (.arrive bs) => bs
      | some .arriveAny => Config.arrival s.draws
      | _ => [])) ∨
    ((s.st = .awaiting ∨ s.st = .listening) ∧ t.rxlog = s.rxlog ++ [s.rxQueue.take 4] ∧
      t.rxQueue = s.rxQueue.drop 4 ∧
      t.rx = ⟨BitVec.ofNat 3 (min 4 s.rxQueue.length), s.rxQueue[0]?, s.rxQueue[1]?, s.rxQueue[2]?, s.rxQueue[3]?⟩)

/-- 10_state.md R32, R33: but for a reset, what the streams and histories hold is never withdrawn. -/
def Obligations.StreamsOnlyGrow : Prop :=
  ∀ s t : State, step s = .next t → s.nextInput ≠ some .reset →
    s.reports <+: t.reports ∧ s.echoes <+: t.echoes ∧ s.txlog <+: t.txlog ∧ s.rxlog <+: t.rxlog

/-- 60_exceptions.md R103, R110: IDLE, SUCCESS and FAILED are left only by an accepted START or a reset, and hold their
results until then: every other step keeps every register of the block but CTRL, ADDR and ARG, the latches, the streams and
the histories, and CTRL, ADDR and ARG change only by a host write. -/
def Obligations.EndedOperationHoldsItsResults : Prop :=
  ∀ s t : State, s.st = .idle ∨ s.st = .success ∨ s.st = .failed → step s = .next t →
    (t.st = s.st ∧ t.err = s.err ∧ t.result = s.result ∧ t.rsp = s.rsp ∧ t.rx = s.rx ∧ t.tx = s.tx ∧
      t.latch = s.latch ∧ t.reports = s.reports ∧ t.echoes = s.echoes ∧ t.txlog = s.txlog ∧ t.rxlog = s.rxlog ∧
      ((t.ctrl = s.ctrl ∧ t.addr = s.addr ∧ t.arg = s.arg) ∨ ∃ i v, s.nextInput = some (.write i v))) ∨
    (t.st = .sending ∧ ∃ v, s.nextInput = some (.write 0 v) ∧ v.getLsbD 7 = true) ∨
    (t.st = .idle ∧ s.nextInput = some .reset)

/-- 10_state.md R22 with 41_single_shot.md R79 and 42_discovery.md R90: SENDING is left only by the send step, to AWAITING
for a single-shot operation and to LISTENING for DISCOVER, or by a reset. -/
def Obligations.SendingHasOneExit : Prop :=
  ∀ s t : State, s.st = .sending → step s = .next t → t.st ≠ .sending →
    ((s.nextInput = some .seq ∨ s.nextInput = none) ∧ t.err = s.err ∧ t.txlog = s.txlog ++ [s.latch.request] ∧
      t.st = (if s.latch.op = .discover then .listening else .awaiting)) ∨
    (s.nextInput = some .reset ∧ t.st = .idle)

/-- 10_state.md R22 with 41_single_shot.md R80, R81 and 60_exceptions.md R99: AWAITING is left only by the accepted code
(SUCCESS), by one of the three errors, each on its own cause (FAILED), or by a reset. -/
def Obligations.AwaitingHasItsExits : Prop :=
  ∀ s t : State, s.st = .awaiting → step s = .next t → t.st ≠ .awaiting →
    (s.rxQueue.length < 4 ∧ t.st = .failed ∧ t.err = .length) ∨
    (∃ b0 b1 b2 b3 q, s.rxQueue = b0 :: b1 :: b2 :: b3 :: q ∧
      ((b3 ≠ b0 ^^^ b1 ^^^ b2 ∧ t.st = .failed ∧ t.err = .checksum) ∨
       (b3 = b0 ^^^ b1 ^^^ b2 ∧ b0 ≠ s.latch.op.expect ∧ t.st = .failed ∧ t.err = .commandFailed) ∨
       (b3 = b0 ^^^ b1 ^^^ b2 ∧ b0 = s.latch.op.expect ∧ t.st = .success ∧ t.err = s.err))) ∨
    (s.nextInput = some .reset ∧ t.st = .idle)

/-- 42_discovery.md R98: LISTENING is left only by a short read (SUCCESS), a bad checksum or an ERROR frame (FAILED), or
a reset. -/
def Obligations.ListeningHasThreeExits : Prop :=
  ∀ s t : State, s.st = .listening → step s = .next t → t.st ≠ .listening →
    (s.rxQueue.length < 4 ∧ t.st = .success ∧ t.err = s.err) ∨
    (∃ b0 b1 b2 b3 q, s.rxQueue = b0 :: b1 :: b2 :: b3 :: q ∧ t.st = .failed ∧
      ((b3 ≠ b0 ^^^ b1 ^^^ b2 ∧ t.err = .checksum) ∨
       (b3 = b0 ^^^ b1 ^^^ b2 ∧ b0 = 255 ∧ t.err = .commandFailed))) ∨
    (s.nextInput = some .reset ∧ t.st = .idle)

/-- 10_state.md R23: `ERR` is written only by START, which writes NONE, by the failure entry, and by reset. -/
def Obligations.ErrIsWrittenByStartAndFailure : Prop :=
  ∀ s t : State, step s = .next t →
    t.err = s.err ∨ (t.err = .none ∧ t.st = .sending ∧ s.busy = false) ∨
    (t.err ≠ .none ∧ t.st = .failed ∧ (s.st = .awaiting ∨ s.st = .listening)) ∨
    (s.nextInput = some .reset ∧ t.err = .none)

/-- 10_state.md R25: RESULT changes only by a successful PORT_READ, which writes the response's data, and by the START or
reset that makes it unwritten. -/
def Obligations.ResultIsWrittenByPortReadAlone : Prop :=
  ∀ s t : State, step s = .next t → t.result ≠ s.result →
    (t.result = none ∧ (t.st = .sending ∨ t.st = .idle)) ∨
    (s.st = .awaiting ∧ t.st = .success ∧ s.latch.op = .portRead ∧
      ∃ v, t.result = some v ∧ t.rsp.rdata = some v ∧ t.rsp.rcode = some 253)

/-- 10_state.md R30, 20_memory.md R52: no move of SEQ or of the environment sees CTRL, ADDR or ARG; two states that differ
in them only step alike. -/
def Obligations.RunningOperationIgnoresHostRegisters : Prop :=
  ∀ (s : State) (c : Ctrl) (a g : Byte),
    (∀ i v, s.nextInput ≠ some (.write i v)) → (∀ i, s.nextInput ≠ some (.read i)) → s.nextInput ≠ some .reset →
    step (s.withHostRegs c a g) = mapNext (State.withHostRegs c a g) (step s)

/-- 60_exceptions.md R109: with another `L_DBG` nothing but `ECHOES` differs; with `L_DBG = 0` no step adds an echo. -/
def Obligations.DebugChangesOnlyEchoes : Prop :=
  (∀ (s : State) (b : Bool), mapNext State.butEchoes (step (s.withDbg b)) = mapNext State.butEchoes (step s)) ∧
  (∀ s t : State, s.latch.dbg = false → step s = .next t → s.nextInput ≠ some .reset → t.echoes = s.echoes)

/-! ### Operations end to end, termination and hangs -/

/-- 70_reset_and_hazards.md R115, R121, 20_memory.md R40: a single-shot read without a timeout waits for ever if nothing
more comes: the machine stays in AWAITING however many steps it takes, also while the host polls `STATUS` without end; and
the timer, not being armed, cannot end it. -/
def Obligations.ReadWithoutTimeoutMayHang : Prop :=
  ∀ s : State, s.st = .awaiting → s.latch.tmo = .none → s.rxQueue.length < 4 →
    (s.nextInput = none → ∀ n, Host.Core.run Sys2Proof.core n s = .next s) ∧
    (s.inputs = [] → (∀ x ∈ s.forever, x = .seq ∨ x = .read 3) → ∀ n, ∃ t : State,
      Host.Core.run Sys2Proof.core n s = .next t ∧ t.st = .awaiting ∧ t.rxlog = s.rxlog) ∧
    (s.nextInput = some .seq ∨ s.nextInput = some .expire → step s = .next s.consumed)

/-- 70_reset_and_hazards.md R121: a read with a finite timeout returns, from every state in which one is in progress,
whatever moves are listed and however long they go on, as long as the host keeps to what R122 lets it do while BUSY = 1 and
does not reset. R123 (`finite_tmo`): once its request is due, a single-shot operation with a finite timeout and no further
move ends within two steps, whatever is queued; and a command line launched with R123's premises (clean, no_fault,
finite_tmo) ends within five. When the timer runs out is the model's (log 4); that it does is R121's. -/
def Obligations.TimedReadReturnsAndSingleShotEnds : Prop :=
  (∀ s : State, s.st = .awaiting ∨ s.st = .listening → s.latch.tmo ≠ .none →
    (∀ x ∈ s.inputs ++ s.forever, x.allowedWhileBusy) →
    ∃ k, k ≤ s.inputs.length + s.forever.length + 1 ∧ ∃ (t : State) (r : List Byte),
      Host.Core.run Sys2Proof.core k s = .next t ∧ r.length ≤ 4 ∧ t.rxlog = s.rxlog ++ [r]) ∧
  (∀ s : State, s.st = .sending → s.latch.op ≠ .discover → s.latch.tmo.finite = true → s.nextInput = none →
    ∃ t : State, Host.Core.run Sys2Proof.core 2 s = .next t ∧ t.done = true ∧
      t.txlog = s.txlog ++ [s.latch.request] ∧ t.rxlog = s.rxlog ++ [s.rxQueue.take 4]) ∧
  (∀ (before : Host.Outcome State Fault Refusal) (s : State) (c : CliLine), Launch before s c.timeout c.command.op →
    c.command.op ≠ .discover → s.inputs = c.expand → s.forever = [] →
    ∃ t : State, Host.Core.run Sys2Proof.core 5 s = .next t ∧ t.done = true ∧
      t.rxlog = s.rxlog ++ [s.rxQueue.take 4])

/-- 42_discovery.md R98: a DISCOVER that is listening ends once the chain falls silent, also while the host polls `STATUS`
without end: within one read for each whole frame queued and one more, each of at most one round of the endless moves and a
step. An `init` launched with R123's premises ends within four steps more. That no bytes arrive is the claim's assumption on
the chain (R115); when the timer runs out is the model's (log 4). -/
def Obligations.DiscoveryEndsWhenTheChainFallsSilent : Prop :=
  (∀ s : State, s.st = .listening → s.latch.tmo.finite = true → s.inputs = [] →
    (∀ x ∈ s.forever, x = .seq ∨ x = .read 3) →
    ∃ k, k ≤ (s.rxQueue.length / 4 + 1) * (s.forever.length + 1) ∧
      ∃ t : State, Host.Core.run Sys2Proof.core k s = .next t ∧ t.done = true) ∧
  (∀ (before : Host.Outcome State Fault Refusal) (s : State) (c : CliLine), Launch before s c.timeout c.command.op →
    c.command = .init → s.inputs = c.expand → s.forever = [] →
    ∃ k, k ≤ s.rxQueue.length / 4 + 5 ∧ ∃ t : State, Host.Core.run Sys2Proof.core k s = .next t ∧ t.done = true)

/-- 42_discovery.md R98, 70_reset_and_hazards.md R115 (93 I7, 95 V54): a run that never ends. When the environment keeps
delivering one valid frame that is no ERROR, `init` is still listening after any number of steps, and every such ANNOUNCE
has been reported. The chain is the endless list of moves (log 2); R98 asks that this run be admitted. -/
def Obligations.DiscoveryHasNoBound : Prop :=
  ∀ (s : State) (c a d : Byte), s.busy = false → s.rxQueue = [] → c ≠ 255 →
    s.inputs = [.write 0x00#8 0x80#8, .seq] → s.forever = [.arrive [c, a, d, c ^^^ a ^^^ d], .seq] →
    ∀ n : Nat, ∃ t : State, Host.Core.run Sys2Proof.core (n + 2) s = .next t ∧ t.st = .listening ∧
      t.reports = s.reports ++ (if c = 254 then List.replicate (n / 2) ⟨a, d⟩ else [])

/-- 42_discovery.md R89, R95, R93 (95 W6): `init` end to end, from any state that is not busy. When the chain answers with
any number of ANNOUNCE frames and then falls silent, every controller is reported once per frame, in order, and DISCOVER
ends in SUCCESS. When the timer runs out is the model's (log 4). -/
def Obligations.DiscoveryReportsTheWholeChain : Prop :=
  ∀ (s : State) (c : CliLine) (found : List Report), s.busy = false → c.command = .init → s.inputs = c.expand →
    s.forever = [] → s.rxQueue = found.flatMap (fun p => [254, p.addr, p.fw, 254 ^^^ p.addr ^^^ p.fw]) →
    ∃ t : State, Host.Core.run Sys2Proof.core (found.length + 5) s = .next t ∧ t.st = .success ∧ t.err = .none ∧
      t.reports = s.reports ++ found ∧ t.txlog = s.txlog ++ [⟨0x01, 0x01, 0x00, 0x00⟩] ∧ t.rxQueue = [] ∧
      t.result = none

/-- 41_single_shot.md R78 to R82 with 30_encoding.md R67 (95 W4): a single-shot command line end to end. From any state
that is not busy, with the accepted code first in the queue, it sends its one request, ends in SUCCESS, leaves the rest of
the queue, and gives PORT_READ its bitmask. RELAY runs over every number; outside 1 to 8, which R67 leaves out, the ARG it
writes is the model's (log 23). -/
def Obligations.CommandLineSucceedsOnItsResponse : Prop :=
  ∀ (s : State) (c : CliLine) (a d : Byte) (q : List Byte), s.busy = false → c.command.op ≠ .discover →
    s.inputs = c.expand → s.forever = [] →
    s.rxQueue = c.command.op.expect :: a :: d :: (c.command.op.expect ^^^ a ^^^ d) :: q →
    ∃ t : State, Host.Core.run Sys2Proof.core 5 s = .next t ∧ t.st = .success ∧ t.err = .none ∧
      t.txlog = s.txlog ++ [Latch.request ⟨c.command.op, c.address, c.command.arg, c.debug, .none⟩] ∧
      t.rsp = ⟨some c.command.op.expect, some a, some d⟩ ∧ t.rxQueue = q ∧ t.reports = s.reports ∧
      t.result = (if c.command.op = .portRead then some d else none)
end

