-- ==== Sys2Proof/Laws/HostRegs.lean ====
section
/-! SUPPORT. The register map, one lemma per index (10_state.md R17). -/

namespace Sys2Proof.Machine

section
variable (s : State)

@[simp] theorem State.reg_ctrl : s.reg 0 = .value s.ctrlByte := rfl
@[simp] theorem State.reg_addr : s.reg 1 = .value s.addr := rfl
@[simp] theorem State.reg_arg : s.reg 2 = .value s.arg := rfl
@[simp] theorem State.reg_status : s.reg 3 = .value s.statusByte := rfl
@[simp] theorem State.reg_result : s.reg 4 = .ofOption s.result := rfl
@[simp] theorem State.reg_rcode : s.reg 5 = .ofOption s.rsp.rcode := rfl
@[simp] theorem State.reg_raddr : s.reg 6 = .ofOption s.rsp.raddr := rfl
@[simp] theorem State.reg_rdata : s.reg 7 = .ofOption s.rsp.rdata := rfl
@[simp] theorem State.reg_rxn : s.reg 8 = .value s.rxnByte := rfl
@[simp] theorem State.reg_rxb0 : s.reg 9 = .ofOption s.rx.rxb0 := rfl
@[simp] theorem State.reg_rxb1 : s.reg 10 = .ofOption s.rx.rxb1 := rfl
@[simp] theorem State.reg_rxb2 : s.reg 11 = .ofOption s.rx.rxb2 := rfl
@[simp] theorem State.reg_rxb3 : s.reg 12 = .ofOption s.rx.rxb3 := rfl
@[simp] theorem State.reg_txb0 : s.reg 13 = .ofOption s.tx.txb0 := rfl
@[simp] theorem State.reg_txb1 : s.reg 14 = .ofOption s.tx.txb1 := rfl
@[simp] theorem State.reg_txb2 : s.reg 15 = .ofOption s.tx.txb2 := rfl
@[simp] theorem State.reg_txb3 : s.reg 16 = .ofOption s.tx.txb3 := rfl

/-- Past index 16 there is no register. -/
theorem State.reg_reserved {i : Byte} (h : 16 < i.toNat) : s.reg i = .reserved := by
  unfold State.reg
  generalize i.toNat = n at h
  match n, h with
  | n + 17, _ => rfl

/-- Up to index 16 there is one. -/
theorem State.reg_not_reserved {i : Byte} (h : i.toNat ≤ 16) : s.reg i ≠ .reserved := by
  have written : ∀ o : Option Byte, RegView.ofOption o ≠ .reserved := by
    intro o; cases o <;> simp [RegView.ofOption]
  unfold State.reg
  generalize i.toNat = n at h
  interval_cases n <;> first | exact written _ | simp

end

/-- A host read, by what the register holds (R17, R29). -/
theorem hostRead_of_value {i v : Byte} {s : State} (h : s.reg i = .value v) :
    hostRead i s = .next { s with hostReads := s.hostReads ++ [(i, v)] } := by
  unfold hostRead; rw [h]

theorem hostRead_of_option {i : Byte} {s : State} {o : Option Byte} (h : s.reg i = .ofOption o) :
    hostRead i s = (match (generalizing := false) o with
      | some v => .next { s with hostReads := s.hostReads ++ [(i, v)] }
      | none => .fault (.unwrittenRead i)) := by
  unfold hostRead; cases o <;> rw [h] <;> rfl

theorem hostRead_of_reserved {i : Byte} {s : State} (h : s.reg i = .reserved) :
    hostRead i s = .refused (.reservedIndex i) := by
  unfold hostRead; rw [h]

end Sys2Proof.Machine
end

