-- ==== Sys2Proof/Laws/State.lean ====
section
/-! SUPPORT. What each named update of State does to each field: one lemma per field per update, all true by rfl. -/

namespace Sys2Proof.Machine

variable (s : State)

@[simp] theorem State.enter_ctrl (q : SeqState) : (s.enter q).ctrl = s.ctrl := rfl
@[simp] theorem State.enter_addr (q : SeqState) : (s.enter q).addr = s.addr := rfl
@[simp] theorem State.enter_arg (q : SeqState) : (s.enter q).arg = s.arg := rfl
@[simp] theorem State.enter_st (q : SeqState) : (s.enter q).st = q := rfl
@[simp] theorem State.enter_err (q : SeqState) : (s.enter q).err = s.err := rfl
@[simp] theorem State.enter_result (q : SeqState) : (s.enter q).result = s.result := rfl
@[simp] theorem State.enter_rsp (q : SeqState) : (s.enter q).rsp = s.rsp := rfl
@[simp] theorem State.enter_rx (q : SeqState) : (s.enter q).rx = s.rx := rfl
@[simp] theorem State.enter_tx (q : SeqState) : (s.enter q).tx = s.tx := rfl
@[simp] theorem State.enter_latch (q : SeqState) : (s.enter q).latch = s.latch := rfl
@[simp] theorem State.enter_reports (q : SeqState) : (s.enter q).reports = s.reports := rfl
@[simp] theorem State.enter_echoes (q : SeqState) : (s.enter q).echoes = s.echoes := rfl
@[simp] theorem State.enter_txlog (q : SeqState) : (s.enter q).txlog = s.txlog := rfl
@[simp] theorem State.enter_rxlog (q : SeqState) : (s.enter q).rxlog = s.rxlog := rfl
@[simp] theorem State.enter_rxQueue (q : SeqState) : (s.enter q).rxQueue = s.rxQueue := rfl
@[simp] theorem State.enter_inputs (q : SeqState) : (s.enter q).inputs = s.inputs := rfl
@[simp] theorem State.enter_forever (q : SeqState) : (s.enter q).forever = s.forever := rfl
@[simp] theorem State.enter_waited (q : SeqState) : (s.enter q).waited = s.waited := rfl
@[simp] theorem State.enter_hostReads (q : SeqState) : (s.enter q).hostReads = s.hostReads := rfl
@[simp] theorem State.enter_draws (q : SeqState) : (s.enter q).draws = s.draws := rfl

@[simp] theorem State.raise_ctrl (e : ErrKind) : (s.raise e).ctrl = s.ctrl := rfl
@[simp] theorem State.raise_addr (e : ErrKind) : (s.raise e).addr = s.addr := rfl
@[simp] theorem State.raise_arg (e : ErrKind) : (s.raise e).arg = s.arg := rfl
@[simp] theorem State.raise_st (e : ErrKind) : (s.raise e).st = .failed := rfl
@[simp] theorem State.raise_err (e : ErrKind) : (s.raise e).err = e := rfl
@[simp] theorem State.raise_result (e : ErrKind) : (s.raise e).result = s.result := rfl
@[simp] theorem State.raise_rsp (e : ErrKind) : (s.raise e).rsp = s.rsp := rfl
@[simp] theorem State.raise_rx (e : ErrKind) : (s.raise e).rx = s.rx := rfl
@[simp] theorem State.raise_tx (e : ErrKind) : (s.raise e).tx = s.tx := rfl
@[simp] theorem State.raise_latch (e : ErrKind) : (s.raise e).latch = s.latch := rfl
@[simp] theorem State.raise_reports (e : ErrKind) : (s.raise e).reports = s.reports := rfl
@[simp] theorem State.raise_echoes (e : ErrKind) : (s.raise e).echoes = s.echoes := rfl
@[simp] theorem State.raise_txlog (e : ErrKind) : (s.raise e).txlog = s.txlog := rfl
@[simp] theorem State.raise_rxlog (e : ErrKind) : (s.raise e).rxlog = s.rxlog := rfl
@[simp] theorem State.raise_rxQueue (e : ErrKind) : (s.raise e).rxQueue = s.rxQueue := rfl
@[simp] theorem State.raise_inputs (e : ErrKind) : (s.raise e).inputs = s.inputs := rfl
@[simp] theorem State.raise_forever (e : ErrKind) : (s.raise e).forever = s.forever := rfl
@[simp] theorem State.raise_waited (e : ErrKind) : (s.raise e).waited = s.waited := rfl
@[simp] theorem State.raise_hostReads (e : ErrKind) : (s.raise e).hostReads = s.hostReads := rfl
@[simp] theorem State.raise_draws (e : ErrKind) : (s.raise e).draws = s.draws := rfl

@[simp] theorem State.echo_ctrl (b : Bool) (d : Dir) (f : Frame) : (s.echo b d f).ctrl = s.ctrl := rfl
@[simp] theorem State.echo_addr (b : Bool) (d : Dir) (f : Frame) : (s.echo b d f).addr = s.addr := rfl
@[simp] theorem State.echo_arg (b : Bool) (d : Dir) (f : Frame) : (s.echo b d f).arg = s.arg := rfl
@[simp] theorem State.echo_st (b : Bool) (d : Dir) (f : Frame) : (s.echo b d f).st = s.st := rfl
@[simp] theorem State.echo_err (b : Bool) (d : Dir) (f : Frame) : (s.echo b d f).err = s.err := rfl
@[simp] theorem State.echo_result (b : Bool) (d : Dir) (f : Frame) : (s.echo b d f).result = s.result := rfl
@[simp] theorem State.echo_rsp (b : Bool) (d : Dir) (f : Frame) : (s.echo b d f).rsp = s.rsp := rfl
@[simp] theorem State.echo_rx (b : Bool) (d : Dir) (f : Frame) : (s.echo b d f).rx = s.rx := rfl
@[simp] theorem State.echo_tx (b : Bool) (d : Dir) (f : Frame) : (s.echo b d f).tx = s.tx := rfl
@[simp] theorem State.echo_latch (b : Bool) (d : Dir) (f : Frame) : (s.echo b d f).latch = s.latch := rfl
@[simp] theorem State.echo_reports (b : Bool) (d : Dir) (f : Frame) : (s.echo b d f).reports = s.reports := rfl
@[simp] theorem State.echo_echoes (b : Bool) (d : Dir) (f : Frame) : (s.echo b d f).echoes = if b then s.echoes ++ [⟨d, f⟩] else s.echoes := rfl
@[simp] theorem State.echo_txlog (b : Bool) (d : Dir) (f : Frame) : (s.echo b d f).txlog = s.txlog := rfl
@[simp] theorem State.echo_rxlog (b : Bool) (d : Dir) (f : Frame) : (s.echo b d f).rxlog = s.rxlog := rfl
@[simp] theorem State.echo_rxQueue (b : Bool) (d : Dir) (f : Frame) : (s.echo b d f).rxQueue = s.rxQueue := rfl
@[simp] theorem State.echo_inputs (b : Bool) (d : Dir) (f : Frame) : (s.echo b d f).inputs = s.inputs := rfl
@[simp] theorem State.echo_forever (b : Bool) (d : Dir) (f : Frame) : (s.echo b d f).forever = s.forever := rfl
@[simp] theorem State.echo_waited (b : Bool) (d : Dir) (f : Frame) : (s.echo b d f).waited = s.waited := rfl
@[simp] theorem State.echo_hostReads (b : Bool) (d : Dir) (f : Frame) : (s.echo b d f).hostReads = s.hostReads := rfl
@[simp] theorem State.echo_draws (b : Bool) (d : Dir) (f : Frame) : (s.echo b d f).draws = s.draws := rfl

@[simp] theorem State.report_ctrl (a v : Byte) : (s.report a v).ctrl = s.ctrl := rfl
@[simp] theorem State.report_addr (a v : Byte) : (s.report a v).addr = s.addr := rfl
@[simp] theorem State.report_arg (a v : Byte) : (s.report a v).arg = s.arg := rfl
@[simp] theorem State.report_st (a v : Byte) : (s.report a v).st = s.st := rfl
@[simp] theorem State.report_err (a v : Byte) : (s.report a v).err = s.err := rfl
@[simp] theorem State.report_result (a v : Byte) : (s.report a v).result = s.result := rfl
@[simp] theorem State.report_rsp (a v : Byte) : (s.report a v).rsp = s.rsp := rfl
@[simp] theorem State.report_rx (a v : Byte) : (s.report a v).rx = s.rx := rfl
@[simp] theorem State.report_tx (a v : Byte) : (s.report a v).tx = s.tx := rfl
@[simp] theorem State.report_latch (a v : Byte) : (s.report a v).latch = s.latch := rfl
@[simp] theorem State.report_reports (a v : Byte) : (s.report a v).reports = s.reports ++ [⟨a, v⟩] := rfl
@[simp] theorem State.report_echoes (a v : Byte) : (s.report a v).echoes = s.echoes := rfl
@[simp] theorem State.report_txlog (a v : Byte) : (s.report a v).txlog = s.txlog := rfl
@[simp] theorem State.report_rxlog (a v : Byte) : (s.report a v).rxlog = s.rxlog := rfl
@[simp] theorem State.report_rxQueue (a v : Byte) : (s.report a v).rxQueue = s.rxQueue := rfl
@[simp] theorem State.report_inputs (a v : Byte) : (s.report a v).inputs = s.inputs := rfl
@[simp] theorem State.report_forever (a v : Byte) : (s.report a v).forever = s.forever := rfl
@[simp] theorem State.report_waited (a v : Byte) : (s.report a v).waited = s.waited := rfl
@[simp] theorem State.report_hostReads (a v : Byte) : (s.report a v).hostReads = s.hostReads := rfl
@[simp] theorem State.report_draws (a v : Byte) : (s.report a v).draws = s.draws := rfl

@[simp] theorem State.txWrite_ctrl (f : Frame) : (s.txWrite f).ctrl = s.ctrl := rfl
@[simp] theorem State.txWrite_addr (f : Frame) : (s.txWrite f).addr = s.addr := rfl
@[simp] theorem State.txWrite_arg (f : Frame) : (s.txWrite f).arg = s.arg := rfl
@[simp] theorem State.txWrite_st (f : Frame) : (s.txWrite f).st = s.st := rfl
@[simp] theorem State.txWrite_err (f : Frame) : (s.txWrite f).err = s.err := rfl
@[simp] theorem State.txWrite_result (f : Frame) : (s.txWrite f).result = s.result := rfl
@[simp] theorem State.txWrite_rsp (f : Frame) : (s.txWrite f).rsp = s.rsp := rfl
@[simp] theorem State.txWrite_rx (f : Frame) : (s.txWrite f).rx = s.rx := rfl
@[simp] theorem State.txWrite_tx (f : Frame) : (s.txWrite f).tx = s.tx := rfl
@[simp] theorem State.txWrite_latch (f : Frame) : (s.txWrite f).latch = s.latch := rfl
@[simp] theorem State.txWrite_reports (f : Frame) : (s.txWrite f).reports = s.reports := rfl
@[simp] theorem State.txWrite_echoes (f : Frame) : (s.txWrite f).echoes = s.echoes := rfl
@[simp] theorem State.txWrite_txlog (f : Frame) : (s.txWrite f).txlog = s.txlog ++ [f] := rfl
@[simp] theorem State.txWrite_rxlog (f : Frame) : (s.txWrite f).rxlog = s.rxlog := rfl
@[simp] theorem State.txWrite_rxQueue (f : Frame) : (s.txWrite f).rxQueue = s.rxQueue := rfl
@[simp] theorem State.txWrite_inputs (f : Frame) : (s.txWrite f).inputs = s.inputs := rfl
@[simp] theorem State.txWrite_forever (f : Frame) : (s.txWrite f).forever = s.forever := rfl
@[simp] theorem State.txWrite_waited (f : Frame) : (s.txWrite f).waited = s.waited := rfl
@[simp] theorem State.txWrite_hostReads (f : Frame) : (s.txWrite f).hostReads = s.hostReads := rfl
@[simp] theorem State.txWrite_draws (f : Frame) : (s.txWrite f).draws = s.draws := rfl

@[simp] theorem State.rxRead_ctrl (r : List Byte) : (s.rxRead r).ctrl = s.ctrl := rfl
@[simp] theorem State.rxRead_addr (r : List Byte) : (s.rxRead r).addr = s.addr := rfl
@[simp] theorem State.rxRead_arg (r : List Byte) : (s.rxRead r).arg = s.arg := rfl
@[simp] theorem State.rxRead_st (r : List Byte) : (s.rxRead r).st = s.st := rfl
@[simp] theorem State.rxRead_err (r : List Byte) : (s.rxRead r).err = s.err := rfl
@[simp] theorem State.rxRead_result (r : List Byte) : (s.rxRead r).result = s.result := rfl
@[simp] theorem State.rxRead_rsp (r : List Byte) : (s.rxRead r).rsp = s.rsp := rfl
@[simp] theorem State.rxRead_rx (r : List Byte) : (s.rxRead r).rx = rxRegsOf r := rfl
@[simp] theorem State.rxRead_tx (r : List Byte) : (s.rxRead r).tx = s.tx := rfl
@[simp] theorem State.rxRead_latch (r : List Byte) : (s.rxRead r).latch = s.latch := rfl
@[simp] theorem State.rxRead_reports (r : List Byte) : (s.rxRead r).reports = s.reports := rfl
@[simp] theorem State.rxRead_echoes (r : List Byte) : (s.rxRead r).echoes = s.echoes := rfl
@[simp] theorem State.rxRead_txlog (r : List Byte) : (s.rxRead r).txlog = s.txlog := rfl
@[simp] theorem State.rxRead_rxlog (r : List Byte) : (s.rxRead r).rxlog = s.rxlog ++ [r] := rfl
@[simp] theorem State.rxRead_rxQueue (r : List Byte) : (s.rxRead r).rxQueue = s.rxQueue := rfl
@[simp] theorem State.rxRead_inputs (r : List Byte) : (s.rxRead r).inputs = s.inputs := rfl
@[simp] theorem State.rxRead_forever (r : List Byte) : (s.rxRead r).forever = s.forever := rfl
@[simp] theorem State.rxRead_waited (r : List Byte) : (s.rxRead r).waited = s.waited := rfl
@[simp] theorem State.rxRead_hostReads (r : List Byte) : (s.rxRead r).hostReads = s.hostReads := rfl
@[simp] theorem State.rxRead_draws (r : List Byte) : (s.rxRead r).draws = s.draws := rfl

@[simp] theorem State.setTx_ctrl (f : Frame) : (s.setTx f).ctrl = s.ctrl := rfl
@[simp] theorem State.setTx_addr (f : Frame) : (s.setTx f).addr = s.addr := rfl
@[simp] theorem State.setTx_arg (f : Frame) : (s.setTx f).arg = s.arg := rfl
@[simp] theorem State.setTx_st (f : Frame) : (s.setTx f).st = s.st := rfl
@[simp] theorem State.setTx_err (f : Frame) : (s.setTx f).err = s.err := rfl
@[simp] theorem State.setTx_result (f : Frame) : (s.setTx f).result = s.result := rfl
@[simp] theorem State.setTx_rsp (f : Frame) : (s.setTx f).rsp = s.rsp := rfl
@[simp] theorem State.setTx_rx (f : Frame) : (s.setTx f).rx = s.rx := rfl
@[simp] theorem State.setTx_tx (f : Frame) : (s.setTx f).tx = ⟨some f.b0, some f.b1, some f.b2, some f.b3⟩ := rfl
@[simp] theorem State.setTx_latch (f : Frame) : (s.setTx f).latch = s.latch := rfl
@[simp] theorem State.setTx_reports (f : Frame) : (s.setTx f).reports = s.reports := rfl
@[simp] theorem State.setTx_echoes (f : Frame) : (s.setTx f).echoes = s.echoes := rfl
@[simp] theorem State.setTx_txlog (f : Frame) : (s.setTx f).txlog = s.txlog := rfl
@[simp] theorem State.setTx_rxlog (f : Frame) : (s.setTx f).rxlog = s.rxlog := rfl
@[simp] theorem State.setTx_rxQueue (f : Frame) : (s.setTx f).rxQueue = s.rxQueue := rfl
@[simp] theorem State.setTx_inputs (f : Frame) : (s.setTx f).inputs = s.inputs := rfl
@[simp] theorem State.setTx_forever (f : Frame) : (s.setTx f).forever = s.forever := rfl
@[simp] theorem State.setTx_waited (f : Frame) : (s.setTx f).waited = s.waited := rfl
@[simp] theorem State.setTx_hostReads (f : Frame) : (s.setTx f).hostReads = s.hostReads := rfl
@[simp] theorem State.setTx_draws (f : Frame) : (s.setTx f).draws = s.draws := rfl

@[simp] theorem State.setRsp_ctrl (p : Response) : (s.setRsp p).ctrl = s.ctrl := rfl
@[simp] theorem State.setRsp_addr (p : Response) : (s.setRsp p).addr = s.addr := rfl
@[simp] theorem State.setRsp_arg (p : Response) : (s.setRsp p).arg = s.arg := rfl
@[simp] theorem State.setRsp_st (p : Response) : (s.setRsp p).st = s.st := rfl
@[simp] theorem State.setRsp_err (p : Response) : (s.setRsp p).err = s.err := rfl
@[simp] theorem State.setRsp_result (p : Response) : (s.setRsp p).result = s.result := rfl
@[simp] theorem State.setRsp_rsp (p : Response) : (s.setRsp p).rsp = ⟨some p.code, some p.addr, some p.data⟩ := rfl
@[simp] theorem State.setRsp_rx (p : Response) : (s.setRsp p).rx = s.rx := rfl
@[simp] theorem State.setRsp_tx (p : Response) : (s.setRsp p).tx = s.tx := rfl
@[simp] theorem State.setRsp_latch (p : Response) : (s.setRsp p).latch = s.latch := rfl
@[simp] theorem State.setRsp_reports (p : Response) : (s.setRsp p).reports = s.reports := rfl
@[simp] theorem State.setRsp_echoes (p : Response) : (s.setRsp p).echoes = s.echoes := rfl
@[simp] theorem State.setRsp_txlog (p : Response) : (s.setRsp p).txlog = s.txlog := rfl
@[simp] theorem State.setRsp_rxlog (p : Response) : (s.setRsp p).rxlog = s.rxlog := rfl
@[simp] theorem State.setRsp_rxQueue (p : Response) : (s.setRsp p).rxQueue = s.rxQueue := rfl
@[simp] theorem State.setRsp_inputs (p : Response) : (s.setRsp p).inputs = s.inputs := rfl
@[simp] theorem State.setRsp_forever (p : Response) : (s.setRsp p).forever = s.forever := rfl
@[simp] theorem State.setRsp_waited (p : Response) : (s.setRsp p).waited = s.waited := rfl
@[simp] theorem State.setRsp_hostReads (p : Response) : (s.setRsp p).hostReads = s.hostReads := rfl
@[simp] theorem State.setRsp_draws (p : Response) : (s.setRsp p).draws = s.draws := rfl

@[simp] theorem State.setResult_ctrl (v : Byte) : (s.setResult v).ctrl = s.ctrl := rfl
@[simp] theorem State.setResult_addr (v : Byte) : (s.setResult v).addr = s.addr := rfl
@[simp] theorem State.setResult_arg (v : Byte) : (s.setResult v).arg = s.arg := rfl
@[simp] theorem State.setResult_st (v : Byte) : (s.setResult v).st = s.st := rfl
@[simp] theorem State.setResult_err (v : Byte) : (s.setResult v).err = s.err := rfl
@[simp] theorem State.setResult_result (v : Byte) : (s.setResult v).result = some v := rfl
@[simp] theorem State.setResult_rsp (v : Byte) : (s.setResult v).rsp = s.rsp := rfl
@[simp] theorem State.setResult_rx (v : Byte) : (s.setResult v).rx = s.rx := rfl
@[simp] theorem State.setResult_tx (v : Byte) : (s.setResult v).tx = s.tx := rfl
@[simp] theorem State.setResult_latch (v : Byte) : (s.setResult v).latch = s.latch := rfl
@[simp] theorem State.setResult_reports (v : Byte) : (s.setResult v).reports = s.reports := rfl
@[simp] theorem State.setResult_echoes (v : Byte) : (s.setResult v).echoes = s.echoes := rfl
@[simp] theorem State.setResult_txlog (v : Byte) : (s.setResult v).txlog = s.txlog := rfl
@[simp] theorem State.setResult_rxlog (v : Byte) : (s.setResult v).rxlog = s.rxlog := rfl
@[simp] theorem State.setResult_rxQueue (v : Byte) : (s.setResult v).rxQueue = s.rxQueue := rfl
@[simp] theorem State.setResult_inputs (v : Byte) : (s.setResult v).inputs = s.inputs := rfl
@[simp] theorem State.setResult_forever (v : Byte) : (s.setResult v).forever = s.forever := rfl
@[simp] theorem State.setResult_waited (v : Byte) : (s.setResult v).waited = s.waited := rfl
@[simp] theorem State.setResult_hostReads (v : Byte) : (s.setResult v).hostReads = s.hostReads := rfl
@[simp] theorem State.setResult_draws (v : Byte) : (s.setResult v).draws = s.draws := rfl

@[simp] theorem State.writeCtrl_ctrl (o : BitVec 3) (d t : Bool) : (s.writeCtrl o d t).ctrl = ⟨o, d, t⟩ := rfl
@[simp] theorem State.writeCtrl_addr (o : BitVec 3) (d t : Bool) : (s.writeCtrl o d t).addr = s.addr := rfl
@[simp] theorem State.writeCtrl_arg (o : BitVec 3) (d t : Bool) : (s.writeCtrl o d t).arg = s.arg := rfl
@[simp] theorem State.writeCtrl_st (o : BitVec 3) (d t : Bool) : (s.writeCtrl o d t).st = s.st := rfl
@[simp] theorem State.writeCtrl_err (o : BitVec 3) (d t : Bool) : (s.writeCtrl o d t).err = s.err := rfl
@[simp] theorem State.writeCtrl_result (o : BitVec 3) (d t : Bool) : (s.writeCtrl o d t).result = s.result := rfl
@[simp] theorem State.writeCtrl_rsp (o : BitVec 3) (d t : Bool) : (s.writeCtrl o d t).rsp = s.rsp := rfl
@[simp] theorem State.writeCtrl_rx (o : BitVec 3) (d t : Bool) : (s.writeCtrl o d t).rx = s.rx := rfl
@[simp] theorem State.writeCtrl_tx (o : BitVec 3) (d t : Bool) : (s.writeCtrl o d t).tx = s.tx := rfl
@[simp] theorem State.writeCtrl_latch (o : BitVec 3) (d t : Bool) : (s.writeCtrl o d t).latch = s.latch := rfl
@[simp] theorem State.writeCtrl_reports (o : BitVec 3) (d t : Bool) : (s.writeCtrl o d t).reports = s.reports := rfl
@[simp] theorem State.writeCtrl_echoes (o : BitVec 3) (d t : Bool) : (s.writeCtrl o d t).echoes = s.echoes := rfl
@[simp] theorem State.writeCtrl_txlog (o : BitVec 3) (d t : Bool) : (s.writeCtrl o d t).txlog = s.txlog := rfl
@[simp] theorem State.writeCtrl_rxlog (o : BitVec 3) (d t : Bool) : (s.writeCtrl o d t).rxlog = s.rxlog := rfl
@[simp] theorem State.writeCtrl_rxQueue (o : BitVec 3) (d t : Bool) : (s.writeCtrl o d t).rxQueue = s.rxQueue := rfl
@[simp] theorem State.writeCtrl_inputs (o : BitVec 3) (d t : Bool) : (s.writeCtrl o d t).inputs = s.inputs := rfl
@[simp] theorem State.writeCtrl_forever (o : BitVec 3) (d t : Bool) : (s.writeCtrl o d t).forever = s.forever := rfl
@[simp] theorem State.writeCtrl_waited (o : BitVec 3) (d t : Bool) : (s.writeCtrl o d t).waited = s.waited := rfl
@[simp] theorem State.writeCtrl_hostReads (o : BitVec 3) (d t : Bool) : (s.writeCtrl o d t).hostReads = s.hostReads := rfl
@[simp] theorem State.writeCtrl_draws (o : BitVec 3) (d t : Bool) : (s.writeCtrl o d t).draws = s.draws := rfl

@[simp] theorem State.startOp_ctrl (o : Op) : (s.startOp o).ctrl = s.ctrl := rfl
@[simp] theorem State.startOp_addr (o : Op) : (s.startOp o).addr = s.addr := rfl
@[simp] theorem State.startOp_arg (o : Op) : (s.startOp o).arg = s.arg := rfl
@[simp] theorem State.startOp_st (o : Op) : (s.startOp o).st = .sending := rfl
@[simp] theorem State.startOp_err (o : Op) : (s.startOp o).err = .none := rfl
@[simp] theorem State.startOp_result (o : Op) : (s.startOp o).result = none := rfl
@[simp] theorem State.startOp_rsp (o : Op) : (s.startOp o).rsp = RspRegs.unwritten := rfl
@[simp] theorem State.startOp_rx (o : Op) : (s.startOp o).rx = RxRegs.cleared := rfl
@[simp] theorem State.startOp_tx (o : Op) : (s.startOp o).tx = TxRegs.unwritten := rfl
@[simp] theorem State.startOp_latch (o : Op) : (s.startOp o).latch = s.latched o := rfl
@[simp] theorem State.startOp_reports (o : Op) : (s.startOp o).reports = s.reports := rfl
@[simp] theorem State.startOp_echoes (o : Op) : (s.startOp o).echoes = s.echoes := rfl
@[simp] theorem State.startOp_txlog (o : Op) : (s.startOp o).txlog = s.txlog := rfl
@[simp] theorem State.startOp_rxlog (o : Op) : (s.startOp o).rxlog = s.rxlog := rfl
@[simp] theorem State.startOp_rxQueue (o : Op) : (s.startOp o).rxQueue = s.rxQueue := rfl
@[simp] theorem State.startOp_inputs (o : Op) : (s.startOp o).inputs = s.inputs := rfl
@[simp] theorem State.startOp_forever (o : Op) : (s.startOp o).forever = s.forever := rfl
@[simp] theorem State.startOp_waited (o : Op) : (s.startOp o).waited = s.waited := rfl
@[simp] theorem State.startOp_hostReads (o : Op) : (s.startOp o).hostReads = s.hostReads := rfl
@[simp] theorem State.startOp_draws (o : Op) : (s.startOp o).draws = s.draws := rfl

end Sys2Proof.Machine
end

