-- ==== Sys2Proof/Laws/Ops.lean ====
section
/-! SUPPORT. One lemma per shared operation that says once everything it can do. -/

namespace Sys2Proof.Machine

/-! ### The codec -/

/-- DECODE's verdict: a wrong length, a checksum that fails, or the three fields (R72, R74, R75). -/
theorem validate_cases (r : List Byte) :
    (r.length ≠ 4 ∧ validate r = .error (.length r.length)) ∨
    (∃ b0 b1 b2 b3, r = [b0, b1, b2, b3] ∧ b3 ≠ checksum b0 b1 b2 ∧
      validate r = .error (.checksum ⟨b0, b1, b2, b3⟩)) ∨
    (∃ b0 b1 b2, r = [b0, b1, b2, checksum b0 b1 b2] ∧ validate r = .ok ⟨b0, b1, b2⟩) := by
  match r with
  | [] => simp [validate]
  | [_] => simp [validate]
  | [_, _] => simp [validate]
  | [_, _, _] => simp [validate]
  | [b0, b1, b2, b3] =>
    by_cases h : b3 = checksum b0 b1 b2
    · exact .inr (.inr ⟨b0, b1, b2, by rw [h], by rw [validate, if_pos h]⟩)
    · exact .inr (.inl ⟨b0, b1, b2, b3, rfl, h, by rw [validate, if_neg h]⟩)
  | _ :: _ :: _ :: _ :: _ :: _ => simp [validate]

/-- What DECODE may change: `ECHOES` and the response registers (R71). -/
theorem State.decodeRsp_eq (b : Bool) (r : List Byte) (s : State) :
    s.decodeRsp b r = { s with echoes := (s.decodeRsp b r).echoes, rsp := (s.decodeRsp b r).rsp } := by
  unfold State.decodeRsp State.echoRead
  split <;> split <;> rfl

/-- DECODE's echo: four bytes read while `L_DBG = 1` (R73). -/
theorem State.decodeRsp_echoes (b : Bool) (r : List Byte) (s : State) :
    (s.decodeRsp b r).echoes = s.echoes ∨
    ∃ b0 b1 b2 b3, r = [b0, b1, b2, b3] ∧ b = true ∧
      (s.decodeRsp b r).echoes = s.echoes ++ [⟨.rx, ⟨b0, b1, b2, b3⟩⟩] := by
  unfold State.decodeRsp State.echoRead
  cases b <;> (split <;> split <;> simp)

/-- Without a valid frame the response registers stay (R74). -/
theorem State.decodeRsp_rsp_error {b : Bool} {r : List Byte} {s : State} {e : CodecError}
    (h : validate r = .error e) : (s.decodeRsp b r).rsp = s.rsp := by
  unfold State.decodeRsp State.echoRead
  rw [h]
  dsimp only
  split <;> rfl

/-- With one they hold its fields (R75). -/
theorem State.decodeRsp_rsp_ok {b : Bool} {r : List Byte} {s : State} {p : Response}
    (h : validate r = .ok p) : (s.decodeRsp b r).rsp = ⟨some p.code, some p.addr, some p.data⟩ := by
  unfold State.decodeRsp
  rw [h]
  rfl

section
variable (b : Bool) (r : List Byte) (s : State)

@[simp] theorem State.decodeRsp_ctrl : (s.decodeRsp b r).ctrl = s.ctrl := by rw [State.decodeRsp_eq]
@[simp] theorem State.decodeRsp_addr : (s.decodeRsp b r).addr = s.addr := by rw [State.decodeRsp_eq]
@[simp] theorem State.decodeRsp_arg : (s.decodeRsp b r).arg = s.arg := by rw [State.decodeRsp_eq]
@[simp] theorem State.decodeRsp_st : (s.decodeRsp b r).st = s.st := by rw [State.decodeRsp_eq]
@[simp] theorem State.decodeRsp_err : (s.decodeRsp b r).err = s.err := by rw [State.decodeRsp_eq]
@[simp] theorem State.decodeRsp_result : (s.decodeRsp b r).result = s.result := by rw [State.decodeRsp_eq]
@[simp] theorem State.decodeRsp_rx : (s.decodeRsp b r).rx = s.rx := by rw [State.decodeRsp_eq]
@[simp] theorem State.decodeRsp_tx : (s.decodeRsp b r).tx = s.tx := by rw [State.decodeRsp_eq]
@[simp] theorem State.decodeRsp_latch : (s.decodeRsp b r).latch = s.latch := by rw [State.decodeRsp_eq]
@[simp] theorem State.decodeRsp_reports : (s.decodeRsp b r).reports = s.reports := by rw [State.decodeRsp_eq]
@[simp] theorem State.decodeRsp_txlog : (s.decodeRsp b r).txlog = s.txlog := by rw [State.decodeRsp_eq]
@[simp] theorem State.decodeRsp_rxlog : (s.decodeRsp b r).rxlog = s.rxlog := by rw [State.decodeRsp_eq]
@[simp] theorem State.decodeRsp_rxQueue : (s.decodeRsp b r).rxQueue = s.rxQueue := by rw [State.decodeRsp_eq]
@[simp] theorem State.decodeRsp_inputs : (s.decodeRsp b r).inputs = s.inputs := by rw [State.decodeRsp_eq]
@[simp] theorem State.decodeRsp_forever : (s.decodeRsp b r).forever = s.forever := by rw [State.decodeRsp_eq]
@[simp] theorem State.decodeRsp_waited : (s.decodeRsp b r).waited = s.waited := by rw [State.decodeRsp_eq]
@[simp] theorem State.decodeRsp_hostReads : (s.decodeRsp b r).hostReads = s.hostReads := by rw [State.decodeRsp_eq]
@[simp] theorem State.decodeRsp_draws : (s.decodeRsp b r).draws = s.draws := by rw [State.decodeRsp_eq]

end

/-! ### START, the send step, the receive and listen steps -/

/-- A start command goes on exactly when the block is not busy (R31, R113). -/
theorem hostStart_next {op : Op} {t d : Bool} {s s' : State} :
    hostStart op t d s = .next s' ↔ s.busy = false ∧ s' = (s.writeCtrl op.code d t).startOp op := by
  unfold hostStart
  cases s.busy <;> simp [eq_comm]

/-- A request goes on exactly in SENDING, when it is the one the latches build (R56, R79, R90). -/
theorem sendStep_next {f : Frame} {s s' : State} :
    sendStep f s = .next s' ↔ s.st = .sending ∧ f = s.latch.request ∧ s' = s.send := by
  unfold sendStep
  by_cases h : s.st = .sending
  · by_cases hf : f = s.latch.request <;> simp [h, hf, eq_comm]
  · simp [h]

/-- A read result goes on exactly in AWAITING or LISTENING (R80, R92). -/
theorem receiveStep_next {r : List Byte} {s s' : State} :
    receiveStep r s = .next s' ↔ (s.st = .awaiting ∧ s' = s.await r) ∨ (s.st = .listening ∧ s' = s.listen r) := by
  unfold receiveStep
  cases s.st <;> simp [eq_comm]

/-- The receive step: an error of DECODE, the expected code, or another one (R80, R81). -/
theorem State.await_cases (r : List Byte) (s : State) :
    (∃ e, validate r = .error e ∧ s.await r = ((s.rxRead r).decodeRsp s.latch.dbg r).raise e.kind) ∨
    (∃ p, validate r = .ok p ∧ p.code = s.latch.op.expect ∧
      s.await r = ((s.rxRead r).decodeRsp s.latch.dbg r).succeed p) ∨
    (∃ p, validate r = .ok p ∧ p.code ≠ s.latch.op.expect ∧
      s.await r = ((s.rxRead r).decodeRsp s.latch.dbg r).raise .commandFailed) := by
  unfold State.await
  cases validate r with
  | error e => exact .inl ⟨e, rfl, rfl⟩
  | ok p =>
    by_cases h : p.code = s.latch.op.expect
    · exact .inr (.inl ⟨p, rfl, h, by simp [h]⟩)
    · exact .inr (.inr ⟨p, rfl, h, by simp [h]⟩)

/-- The listen step: end of the chain, bad checksum, ANNOUNCE, ERROR, or any other code (R92 to R97). -/
theorem State.listen_cases (r : List Byte) (s : State) :
    (∃ n, validate r = .error (.length n) ∧
      s.listen r = ((s.rxRead r).decodeRsp s.latch.dbg r).enter .success) ∨
    (∃ f, validate r = .error (.checksum f) ∧
      s.listen r = ((s.rxRead r).decodeRsp s.latch.dbg r).raise .checksum) ∨
    (∃ p, validate r = .ok p ∧ p.code = 254#8 ∧
      s.listen r = (((s.rxRead r).decodeRsp s.latch.dbg r).report p.addr p.data).enter .listening) ∨
    (∃ p, validate r = .ok p ∧ p.code = 255#8 ∧
      s.listen r = ((s.rxRead r).decodeRsp s.latch.dbg r).raise .commandFailed) ∨
    (∃ p, validate r = .ok p ∧ p.code ≠ 254#8 ∧ p.code ≠ 255#8 ∧
      s.listen r = ((s.rxRead r).decodeRsp s.latch.dbg r).enter .listening) := by
  unfold State.listen
  cases validate r with
  | error e =>
    cases e with
    | length n => exact .inl ⟨n, rfl, rfl⟩
    | checksum f => exact .inr (.inl ⟨f, rfl, rfl⟩)
  | ok p =>
    by_cases h : p.code = 254#8
    · exact .inr (.inr (.inl ⟨p, rfl, h, by simp [h]⟩))
    · by_cases h' : p.code = 255#8
      · exact .inr (.inr (.inr (.inl ⟨p, rfl, h', by simp [h']⟩)))
      · exact .inr (.inr (.inr (.inr ⟨p, rfl, h, h', by simp [h, h']⟩)))

/-- Success of a single-shot operation touches `ST` and, for PORT_READ, `RESULT` (R81). -/
theorem State.succeed_eq (p : Response) (s : State) :
    s.succeed p = { s with
      st := .success, result := if s.latch.op = .portRead then some p.data else s.result } := by
  unfold State.succeed
  split <;> rfl

/-- The send step changes the transmit registers, `ECHOES`, `TXLOG` and `ST` (R70, R79, R90). -/
theorem State.send_eq (s : State) :
    s.send = { s with
      tx := ⟨some s.latch.request.b0, some s.latch.request.b1, some s.latch.request.b2, some s.latch.request.b3⟩
      echoes := if s.latch.dbg then s.echoes ++ [⟨.tx, s.latch.request⟩] else s.echoes
      txlog := s.txlog ++ [s.latch.request]
      st := s.latch.op.afterSend } := rfl

end Sys2Proof.Machine
end

