-- ==== Sys2Proof/Laws/PerInstr.lean ====
section
/-! SUPPORT. The family TableForm: every instruction's encoding has the width, the mask and the match of its row of
spec/opcode_table.json, byte by byte. -/

namespace Sys2Proof.Laws.TableForm

/-- A row's (mask, match) pairs, first byte on the wire first. -/
def row : Instr → List (Byte × Byte)
  | .init _ _ _ => [(0x87, 0x80)]
  | .set _ _ _ => [(0x87, 0x81)]
  | .clear _ _ _ => [(0x87, 0x82)]
  | .toggle _ _ _ => [(0x87, 0x83)]
  | .port _ _ _ => [(0x87, 0x84)]
  | .portSet _ _ _ => [(0x87, 0x85)]
  | .setup => [(0xFF, 0x01), (0xFF, 0x01), (0xFF, 0x00), (0xFF, 0x00)]
  | .getPort _ _ _ => [(0xFF, 0x02), (0, 0), (0, 0), (0, 0)]
  | .setPort _ _ _ => [(0xFF, 0x03), (0, 0), (0, 0), (0, 0)]
  | .setSingle _ _ _ => [(0xFF, 0x06), (0, 0), (0, 0), (0, 0)]
  | .delSingle _ _ _ => [(0xFF, 0x07), (0, 0), (0, 0), (0, 0)]
  | .toggleReq _ _ _ => [(0xFF, 0x08), (0, 0), (0, 0), (0, 0)]
  | .toggleOk _ _ _ => [(0xFF, 0xF7), (0, 0), (0, 0), (0, 0)]
  | .delSingleOk _ _ _ => [(0xFF, 0xF8), (0, 0), (0, 0), (0, 0)]
  | .setSingleOk _ _ _ => [(0xFF, 0xF9), (0, 0), (0, 0), (0, 0)]
  | .setPortOk _ _ _ => [(0xFF, 0xFC), (0, 0), (0, 0), (0, 0)]
  | .getPortOk _ _ _ => [(0xFF, 0xFD), (0, 0), (0, 0), (0, 0)]
  | .announce _ _ _ => [(0xFF, 0xFE), (0, 0), (0, 0), (0, 0)]
  | .error _ _ _ => [(0xFF, 0xFF), (0, 0), (0, 0), (0, 0)]

/-- The encoding has the row's width, and under the row's mask it is the row's match. -/
def Statement (i : Instr) : Prop :=
  (encode i).length = (row i).length ∧
    List.zipWith (fun b m => b &&& m.1) (encode i) (row i) = (row i).map (·.2)

/-- Every host command keeps its fixed bits, whatever r, t and d are. -/
theorem hostByte_masked (op : BitVec 3) (r : BitVec 2) (t d : Bool) :
    hostByte op r t d &&& 0x87 = 0x80 ||| (0#5 ++ op) := by
  revert op r t d; decide

theorem init (r : BitVec 2) (t d : Bool) : Statement (.init r t d) :=
  ⟨rfl, by simp only [encode, row, List.zipWith, hostByte_masked]; decide⟩

theorem set (r : BitVec 2) (t d : Bool) : Statement (.set r t d) :=
  ⟨rfl, by simp only [encode, row, List.zipWith, hostByte_masked]; decide⟩

theorem clear (r : BitVec 2) (t d : Bool) : Statement (.clear r t d) :=
  ⟨rfl, by simp only [encode, row, List.zipWith, hostByte_masked]; decide⟩

theorem toggle (r : BitVec 2) (t d : Bool) : Statement (.toggle r t d) :=
  ⟨rfl, by simp only [encode, row, List.zipWith, hostByte_masked]; decide⟩

theorem port (r : BitVec 2) (t d : Bool) : Statement (.port r t d) :=
  ⟨rfl, by simp only [encode, row, List.zipWith, hostByte_masked]; decide⟩

theorem portSet (r : BitVec 2) (t d : Bool) : Statement (.portSet r t d) :=
  ⟨rfl, by simp only [encode, row, List.zipWith, hostByte_masked]; decide⟩

theorem setup : Statement .setup := ⟨rfl, by decide⟩

theorem getPort (a d k : Byte) : Statement (.getPort a d k) := ⟨rfl, by simp [encode, row]⟩

theorem setPort (a d k : Byte) : Statement (.setPort a d k) := ⟨rfl, by simp [encode, row]⟩

theorem setSingle (a d k : Byte) : Statement (.setSingle a d k) := ⟨rfl, by simp [encode, row]⟩

theorem delSingle (a d k : Byte) : Statement (.delSingle a d k) := ⟨rfl, by simp [encode, row]⟩

theorem toggleReq (a d k : Byte) : Statement (.toggleReq a d k) := ⟨rfl, by simp [encode, row]⟩

theorem toggleOk (a d k : Byte) : Statement (.toggleOk a d k) := ⟨rfl, by simp [encode, row]⟩

theorem delSingleOk (a d k : Byte) : Statement (.delSingleOk a d k) := ⟨rfl, by simp [encode, row]⟩

theorem setSingleOk (a d k : Byte) : Statement (.setSingleOk a d k) := ⟨rfl, by simp [encode, row]⟩

theorem setPortOk (a d k : Byte) : Statement (.setPortOk a d k) := ⟨rfl, by simp [encode, row]⟩

theorem getPortOk (a d k : Byte) : Statement (.getPortOk a d k) := ⟨rfl, by simp [encode, row]⟩

theorem announce (a d k : Byte) : Statement (.announce a d k) := ⟨rfl, by simp [encode, row]⟩

theorem error (a d k : Byte) : Statement (.error a d k) := ⟨rfl, by simp [encode, row]⟩

end Sys2Proof.Laws.TableForm
end

