-- ==== Sys2Proof/Laws/Step.lean ====
section
/-! SUPPORT. What a step can do, said once: the instruction classes as shared operations, and the inversion of `step`. -/

namespace Sys2Proof.Machine

/-- The formats of the opcode table (R53 to R55), read off the constructor. -/
inductive InstrClass where
  | start (op : Op) (t d : Bool)
  | request (f : Frame)
  | response (f : Frame)

/-- The class of each instruction. -/
def classOf : Instr → InstrClass
  | .init _ t d => .start .discover t d
  | .set _ t d => .start .set t d
  | .clear _ t d => .start .clear t d
  | .toggle _ t d => .start .toggle t d
  | .port _ t d => .start .portRead t d
  | .portSet _ t d => .start .portWrite t d
  | .setup => .request ⟨0x01#8, 0x01#8, 0x00#8, 0x00#8⟩
  | .getPort a d k => .request ⟨0x02#8, a, d, k⟩
  | .setPort a d k => .request ⟨0x03#8, a, d, k⟩
  | .setSingle a d k => .request ⟨0x06#8, a, d, k⟩
  | .delSingle a d k => .request ⟨0x07#8, a, d, k⟩
  | .toggleReq a d k => .request ⟨0x08#8, a, d, k⟩
  | .toggleOk a d k => .response ⟨0xF7#8, a, d, k⟩
  | .delSingleOk a d k => .response ⟨0xF8#8, a, d, k⟩
  | .setSingleOk a d k => .response ⟨0xF9#8, a, d, k⟩
  | .setPortOk a d k => .response ⟨0xFC#8, a, d, k⟩
  | .getPortOk a d k => .response ⟨0xFD#8, a, d, k⟩
  | .announce a d k => .response ⟨0xFE#8, a, d, k⟩
  | .error a d k => .response ⟨0xFF#8, a, d, k⟩

/-- Every instruction is one of the three shared operations. -/
theorem exec_classOf (i : Instr) (s : State) :
    exec i s = match classOf i with
      | .start op t d => hostStart op t d s
      | .request f => sendStep f s
      | .response f => receiveStep f.toList s := by
  cases i <;> rfl

/-- A frame decoded as a response is that response's own bytes. -/
theorem classOf_decodeRsp {f : Frame} {i : Instr} (h : decodeRsp f = .ok i) : classOf i = .response f := by
  unfold decodeRsp at h
  split_ifs at h with h0 h1 h2 h3 h4 h5 h6 <;> cases h <;> cases f <;> simp_all [classOf]

/-- A byte decoded as a host command starts an operation. -/
theorem classOf_decodeHost {v : Byte} {i : Instr} (h : decodeHost v = .ok i) :
    ∃ op, classOf i = .start op (v.getLsbD 4) (v.getLsbD 3) := by
  unfold decodeHost at h
  dsimp only at h
  split_ifs at h <;> cases h <;> exact ⟨_, rfl⟩

/-- The latched request as an instruction runs the send step on the latched frame (R56). -/
theorem exec_requestInstr (l : Latch) (s : State) : exec l.requestInstr s = sendStep l.request s := by
  have setupFrame : packFrame 0x01#8 0x01#8 0x00#8 = ⟨0x01#8, 0x01#8, 0x00#8, 0x00#8⟩ := by decide
  obtain ⟨op, a, g, d, t⟩ := l
  cases op
  case discover => exact congrArg (sendStep · s) setupFrame.symm
  all_goals rfl

/-- What running a move gives. -/
def Move.outcome : Move → Host.Outcome State Fault Refusal
  | .run i s => exec i s
  | .done o => o

theorem step_eq_outcome (s : State) : step s = (nextMove s).outcome := by
  unfold step Move.outcome
  cases nextMove s <;> rfl

/-- Taking the next move changes the two lists of moves and the wait, and nothing else. -/
theorem State.consumed_eq (s : State) :
    s.consumed = { s with inputs := s.consumed.inputs, forever := s.consumed.forever, waited := s.consumed.waited } := rfl

section
variable (s : State)

@[simp] theorem State.consumed_ctrl : s.consumed.ctrl = s.ctrl := rfl
@[simp] theorem State.consumed_addr : s.consumed.addr = s.addr := rfl
@[simp] theorem State.consumed_arg : s.consumed.arg = s.arg := rfl
@[simp] theorem State.consumed_st : s.consumed.st = s.st := rfl
@[simp] theorem State.consumed_err : s.consumed.err = s.err := rfl
@[simp] theorem State.consumed_result : s.consumed.result = s.result := rfl
@[simp] theorem State.consumed_rsp : s.consumed.rsp = s.rsp := rfl
@[simp] theorem State.consumed_rx : s.consumed.rx = s.rx := rfl
@[simp] theorem State.consumed_tx : s.consumed.tx = s.tx := rfl
@[simp] theorem State.consumed_latch : s.consumed.latch = s.latch := rfl
@[simp] theorem State.consumed_reports : s.consumed.reports = s.reports := rfl
@[simp] theorem State.consumed_echoes : s.consumed.echoes = s.echoes := rfl
@[simp] theorem State.consumed_txlog : s.consumed.txlog = s.txlog := rfl
@[simp] theorem State.consumed_rxlog : s.consumed.rxlog = s.rxlog := rfl
@[simp] theorem State.consumed_rxQueue : s.consumed.rxQueue = s.rxQueue := rfl
@[simp] theorem State.consumed_hostReads : s.consumed.hostReads = s.hostReads := rfl
@[simp] theorem State.consumed_draws : s.consumed.draws = s.draws := rfl

end

/-- With a listed move the next move is its first one, which goes. -/
theorem State.consumed_of_cons {s : State} {x : Input} {rest : List Input} (h : s.inputs = x :: rest) :
    s.nextInput = some x ∧ s.consumed = { s with inputs := rest } := by
  simp [State.nextInput, State.consumed, State.foreverTurn, h]

/-- The timer's end is due exactly when no move is listed once, the timer runs, and every endless move had its turn. -/
theorem State.timerDue_iff {s : State} :
    s.timerDue = true ↔ s.inputs = [] ∧ s.timerArmed = true ∧ s.forever.length ≤ s.waited := by
  simp [State.timerDue, and_assoc]

/-- Without a timer running it is never due. -/
theorem State.timerDue_of_unarmed {s : State} (h : s.timerArmed = false) : s.timerDue = false := by
  simp [State.timerDue, h]

/-- When it is due it is the next move, and is in no list. -/
theorem State.consumed_of_timerDue {s : State} (h : s.timerDue = true) : s.nextInput = some .expire ∧ s.consumed = s := by
  have hi := (State.timerDue_iff.1 h).1
  have ht : s.foreverTurn = false := by simp [State.foreverTurn, h]
  constructor
  · simp [State.nextInput, hi, h]
  · unfold State.consumed
    rw [ht, hi]
    obtain ⟨⟩ := s
    cases hi
    rfl

/-- Otherwise, without a move listed once, it is the first endless move, which goes to the end. -/
theorem State.consumed_of_forever {s : State} {x : Input} {rest : List Input} (h : s.inputs = [])
    (hf : s.forever = x :: rest) (hd : s.timerDue = false) :
    s.nextInput = some x ∧ s.consumed = { s with forever := rest ++ [x], waited := s.waited + 1 } := by
  have ht : s.foreverTurn = true := by simp [State.foreverTurn, h, hf, hd]
  constructor
  · simp [State.nextInput, h, hf, hd]
  · unfold State.consumed
    rw [ht, h, hf]
    obtain ⟨⟩ := s
    cases h
    rfl

/-- There is no move to make exactly when both lists are empty and no timer runs. -/
theorem State.nextInput_none {s : State} :
    s.nextInput = none ↔ s.inputs = [] ∧ s.forever = [] ∧ s.timerArmed = false := by
  unfold State.nextInput State.timerDue
  cases s.inputs <;> cases s.forever <;> cases s.timerArmed <;> simp
  split <;> simp

/-- Then there is nothing to take. -/
theorem State.consumed_of_none {s : State} (h : s.nextInput = none) : s.consumed = s := by
  obtain ⟨h1, h2, h3⟩ := State.nextInput_none.1 h
  have ht : s.foreverTurn = false := by simp [State.foreverTurn, h2]
  unfold State.consumed
  rw [ht, h1]
  obtain ⟨⟩ := s
  cases h1
  rfl

/-- A step with a move to make takes it. -/
theorem step_of_input {s : State} {x : Input} (h : s.nextInput = some x) :
    step s = (inputMove x s.consumed).outcome := by
  rw [step_eq_outcome, nextMove, h]

/-- A step without one is SEQ's own. -/
theorem step_of_noInput {s : State} (h : s.nextInput = none) : step s = (seqMove s).outcome := by
  rw [step_eq_outcome, nextMove, h]

/-- Whether or not the result is a row of the table, a read runs the one receive operation on it (R65). -/
theorem deliver_outcome (s : State) :
    (deliver s).outcome = receiveStep (s.rxQueue.take 4) { s with rxQueue := s.rxQueue.drop 4, waited := 0 } := by
  unfold deliver
  dsimp only
  split
  · next b0 b1 b2 b3 h =>
    rw [h]
    split
    · next i hi => rw [Move.outcome, exec_classOf, classOf_decodeRsp hi]
    · rfl
  · rfl

/-- What a step of SEQ gives (R79, R80, R90, R92, R103, R110). -/
theorem seqMove_outcome (s : State) :
    ((seqMove s).outcome = .next s ∧ s.st ≠ .sending) ∨
    (s.st = .sending ∧ (seqMove s).outcome = .next ({ s with waited := 0 } : State).send) ∨
    (s.st.reading = true ∧ (seqMove s).outcome = (deliver s).outcome) := by
  unfold seqMove
  cases hs : s.st with
  | idle => exact .inl ⟨rfl, by decide⟩
  | success => exact .inl ⟨rfl, by decide⟩
  | failed => exact .inl ⟨rfl, by decide⟩
  | sending =>
    refine .inr (.inl ⟨rfl, ?_⟩)
    rw [Move.outcome, exec_requestInstr]
    exact sendStep_next.2 ⟨rfl, rfl, rfl⟩
  | awaiting =>
    dsimp only
    split
    · exact .inr (.inr ⟨rfl, rfl⟩)
    · exact .inl ⟨rfl, by decide⟩
  | listening =>
    dsimp only
    split
    · exact .inr (.inr ⟨rfl, rfl⟩)
    · exact .inl ⟨rfl, by decide⟩

/-- In IDLE, SUCCESS and FAILED it gives the state as it is (R103, R110). -/
theorem seqMove_of_notBusy {s : State} (h : s.st = .idle ∨ s.st = .success ∨ s.st = .failed) :
    (seqMove s).outcome = .next s := by
  unfold seqMove
  rcases h with h | h | h <;> rw [h] <;> rfl

/-- Everything a step that goes on can have done. `s₀` is the state with the next move taken. -/
inductive StepCase (s s₀ t : State) : Prop where
  | wait (h : t = s₀) (hs : s.st ≠ .sending ∨ s.nextInput ≠ none)
      (ha : (∀ bs, s.nextInput ≠ some (.arrive bs)) ∧ s.nextInput ≠ some .arriveAny)
  | start (op : Op) (v : Byte) (tt d : Bool) (h : t = (s₀.writeCtrl op.code d tt).startOp op) (hb : s.busy = false)
      (hi : s.nextInput = some (.write 0x00#8 v)) (hv : v.getLsbD 7 = true)
  | send (hs : s.st = .sending) (h : t = ({ s₀ with waited := 0 } : State).send) (hi : s.nextInput = some .seq ∨ s.nextInput = none)
  | await (hs : s.st = .awaiting)
      (h : t = ({ s₀ with rxQueue := s.rxQueue.drop 4, waited := 0 } : State).await (s.rxQueue.take 4))
  | listen (hs : s.st = .listening)
      (h : t = ({ s₀ with rxQueue := s.rxQueue.drop 4, waited := 0 } : State).listen (s.rxQueue.take 4))
  | read (i : Byte) (v : Byte) (h : t = { s₀ with hostReads := s.hostReads ++ [(i, v)] })
      (hi : s.nextInput = some (.read i))
  | write (i v : Byte) (c : Ctrl) (a g : Byte) (h : t = { s₀ with ctrl := c, addr := a, arg := g })
      (hi : s.nextInput = some (.write i v))
  | reset (h : t = s₀.resetBy) (hi : s.nextInput = some .reset)
  | arrive (bs : List Byte) (h : t = { s₀ with rxQueue := s.rxQueue ++ bs }) (hi : s.nextInput = some (.arrive bs))
  | arriveAny (h : t = { s₀ with rxQueue := s.rxQueue ++ Config.arrival s.draws, draws := s.draws + 1 })
      (hi : s.nextInput = some .arriveAny)

/-- A delivered read, as a step case. -/
theorem StepCase.of_receive {s t : State} (h : (deliver s.consumed).outcome = .next t) : StepCase s s.consumed t := by
  rw [deliver_outcome, receiveStep_next] at h
  obtain ⟨h2, h3⟩ | ⟨h2, h3⟩ := h
  · exact .await h2 h3
  · exact .listen h2 h3

/-- A step of SEQ, as a step case. -/
theorem StepCase.of_seq {s t : State} (hi : s.nextInput = some .seq ∨ s.nextInput = none)
    (h : (seqMove s.consumed).outcome = .next t) : StepCase s s.consumed t := by
  rcases seqMove_outcome s.consumed with ⟨h1, h2⟩ | ⟨h2, h1⟩ | ⟨_, h1⟩
  · exact .wait (by rw [h1] at h; exact ((Host.Outcome.next.injEq _ _).mp h).symm) (.inl h2)
      (by rcases hi with hi | hi <;> rw [hi] <;> simp)
  · exact .send h2 (by rw [h1] at h; exact ((Host.Outcome.next.injEq _ _).mp h).symm) hi
  · exact .of_receive (h1 ▸ h)

/-- THE INVERSION OF `step`: a step that goes on is one of these cases. -/
theorem step_cases {s t : State} (h : step s = .next t) : StepCase s s.consumed t := by
  cases hi : s.nextInput with
  | none =>
    rw [step_of_noInput hi] at h
    exact .of_seq (.inr hi) (by rw [State.consumed_of_none hi]; exact h)
  | some x =>
    have hne : s.nextInput ≠ none := by rw [hi]; exact Option.some_ne_none _
    rw [step_of_input hi] at h
    unfold inputMove at h
    cases x with
    | write index value =>
      dsimp only at h
      unfold writeMove at h
      split at h
      · next hv =>
        split at h
        · next i hd =>
          obtain ⟨op, ho⟩ := classOf_decodeHost hd
          rw [Move.outcome, exec_classOf, ho] at h
          obtain ⟨hb, ht⟩ := hostStart_next.1 h
          exact .start op value _ _ ht hb (by rw [hi, hv.1]) hv.2
        · simp [Move.outcome] at h
      · rw [Move.outcome] at h
        unfold hostWrite at h
        split_ifs at h
        · exact .write index value _ s.addr s.arg ((Host.Outcome.next.injEq _ _).mp h).symm hi
        · exact .write index value s.ctrl _ s.arg ((Host.Outcome.next.injEq _ _).mp h).symm hi
        · exact .write index value s.ctrl s.addr _ ((Host.Outcome.next.injEq _ _).mp h).symm hi
        · exact .wait ((Host.Outcome.next.injEq _ _).mp h).symm (.inr hne) (by rw [hi]; simp)
    | read index =>
      rw [Move.outcome] at h
      unfold hostRead at h
      split at h <;> cases h
      exact .read index _ rfl hi
    | reset => exact .reset ((Host.Outcome.next.injEq _ _).mp h).symm hi
    | arrive bs => exact .arrive bs ((Host.Outcome.next.injEq _ _).mp h).symm hi
    | arriveAny => exact .arriveAny ((Host.Outcome.next.injEq _ _).mp h).symm hi
    | expire =>
      dsimp only at h
      split at h
      · exact .of_receive h
      · exact .wait ((Host.Outcome.next.injEq _ _).mp h).symm (.inr hne) (by rw [hi]; simp)
    | disconnect =>
      dsimp only at h
      split at h
      · exact .of_receive h
      · exact .wait ((Host.Outcome.next.injEq _ _).mp h).symm (.inr hne) (by rw [hi]; simp)
    | seq => exact .of_seq (.inl hi) h

end Sys2Proof.Machine
end

