-- ==== Sys2Proof/Laws/Read.lean ====
section
/-! SUPPORT. What one read gives, by what is queued and what ends it; and running the core step by step. -/

namespace Sys2Proof.Machine

/-! ### A read result -/

/-- A frame whose checksum holds is valid (R75). -/
theorem validate_valid (c a d : Byte) : validate [c, a, d, c ^^^ a ^^^ d] = .ok ⟨c, a, d⟩ := by
  rw [validate]; exact if_pos rfl

/-- A frame whose checksum fails is a ChecksumError (R74). -/
theorem validate_invalid {b0 b1 b2 b3 : Byte} (h : b3 ≠ b0 ^^^ b1 ^^^ b2) :
    validate [b0, b1, b2, b3] = .error (.checksum ⟨b0, b1, b2, b3⟩) := by
  rw [validate]; exact if_neg h

/-- A short read is a LengthError (R72). -/
theorem validate_short {r : List Byte} (h : r.length < 4) : validate r = .error (.length r.length) := by
  unfold validate
  split
  · simp at h
  · rfl

/-- A short read is not echoed (R73). -/
theorem State.echoRead_short {r : List Byte} (h : r.length < 4) (b : Bool) (s : State) : s.echoRead b r = s := by
  unfold State.echoRead
  split
  · simp at h
  · rfl

/-- The record of a four-byte read and of its valid frame (R27, R32, R73, R75). -/
def State.recordFrame (c a d : Byte) (s : State) : State :=
  { s with
    rx := ⟨4#3, some c, some a, some d, some (c ^^^ a ^^^ d)⟩
    rxlog := s.rxlog ++ [[c, a, d, c ^^^ a ^^^ d]]
    echoes := if s.latch.dbg then s.echoes ++ [⟨.rx, ⟨c, a, d, c ^^^ a ^^^ d⟩⟩] else s.echoes
    rsp := ⟨some c, some a, some d⟩ }

/-- The receive step on a valid frame (R81). -/
theorem State.await_valid (s : State) (c a d : Byte) :
    s.await [c, a, d, c ^^^ a ^^^ d] =
      if c = s.latch.op.expect then
        { s.recordFrame c a d with
          st := .success, result := if s.latch.op = .portRead then some d else s.result }
      else { s.recordFrame c a d with err := .commandFailed, st := .failed } := by
  unfold State.await
  rw [validate_valid]
  simp only [State.succeed_eq, State.decodeRsp, validate_valid, State.echoRead]
  rfl

/-- The listen step on a valid frame (R95 to R97). -/
theorem State.listen_valid (s : State) (c a d : Byte) :
    s.listen [c, a, d, c ^^^ a ^^^ d] =
      if c = 254#8 then { s.recordFrame c a d with st := .listening, reports := s.reports ++ [⟨a, d⟩] }
      else if c = 255#8 then { s.recordFrame c a d with err := .commandFailed, st := .failed }
      else { s.recordFrame c a d with st := .listening } := by
  unfold State.listen
  rw [validate_valid]
  simp only [State.decodeRsp, validate_valid, State.echoRead]
  rfl

/-! ### Which bytes a step reads -/

/-- With four bytes queued a step of SEQ reads them. -/
theorem step_of_fullRead {s : State} {b0 b1 b2 b3 : Byte} {q : List Byte}
    (hs : s.st = .awaiting ∨ s.st = .listening) (hi : s.nextInput = some .seq)
    (hq : s.rxQueue = b0 :: b1 :: b2 :: b3 :: q) :
    step s = receiveStep [b0, b1, b2, b3] { s.consumed with rxQueue := q, waited := 0 } := by
  have hm : seqMove s.consumed = deliver s.consumed := by
    unfold seqMove
    rcases hs with h | h <;> (simp only [State.consumed_st, h]; rw [if_pos]; simp [hq])
  rw [step_of_input hi]
  show (seqMove _).outcome = _
  rw [hm, deliver_outcome]
  simp [hq]

/-- A timeout or a disconnect ends a read with the bytes that have arrived (R40, R106). -/
theorem step_of_endedRead {s : State} (hs : s.st = .awaiting ∨ s.st = .listening)
    (hi : (s.nextInput = some .expire ∧ s.latch.tmo ≠ .none) ∨ s.nextInput = some .disconnect)
    (hq : s.rxQueue.length < 4) : step s = receiveStep s.rxQueue { s.consumed with rxQueue := [], waited := 0 } := by
  have hr : s.consumed.st.reading = true := by rcases hs with h | h <;> rw [State.consumed_st, h] <;> rfl
  have hd : (deliver s.consumed).outcome = receiveStep s.rxQueue { s.consumed with rxQueue := [], waited := 0 } := by
    rw [deliver_outcome]
    simp [List.take_of_length_le (Nat.le_of_lt hq), List.drop_of_length_le (Nat.le_of_lt hq)]
  rcases hi with ⟨hi, ht⟩ | hi
  · have ha : s.consumed.timerArmed = true := by
      simp only [State.timerArmed, hr, State.consumed_latch]
      cases h : s.latch.tmo <;> simp_all [Timeout.finite]
    rw [step_of_input hi]
    simp only [inputMove, ha, if_true, hd]
  · rw [step_of_input hi]
    simp only [inputMove, hr, if_true, hd]

/-- With no move left SEQ sends what it has latched. -/
theorem step_of_sending {s : State} (hs : s.st = .sending) (hi : s.nextInput = none) :
    step s = .next ({ s with waited := 0 } : State).send := by
  rw [step_of_noInput hi]
  rcases seqMove_outcome s with ⟨_, h2⟩ | ⟨_, h1⟩ | ⟨h2, _⟩
  · exact absurd hs h2
  · exact h1
  · rw [hs] at h2; cases h2

/-- When the timer's end is due the read returns with what is queued, up to four bytes (R40, R121; log 4). -/
theorem step_of_timerDue {s : State} (h : s.timerDue = true) :
    step s = receiveStep (s.rxQueue.take 4) { s with rxQueue := s.rxQueue.drop 4, waited := 0 } := by
  obtain ⟨hi, hc⟩ := State.consumed_of_timerDue h
  rw [step_of_input hi, hc, ← deliver_outcome]
  simp only [inputMove, (State.timerDue_iff.1 h).2.1, if_true]

/-- With both lists of moves empty a read returns when four bytes are queued or its timer runs. -/
theorem step_of_lastRead {s : State} (hs : s.st = .awaiting ∨ s.st = .listening) (hi : s.inputs = []) (hf : s.forever = [])
    (hr : s.latch.tmo.finite = true ∨ 4 ≤ s.rxQueue.length) :
    step s = receiveStep (s.rxQueue.take 4) { s with rxQueue := s.rxQueue.drop 4, waited := 0 } := by
  cases ha : s.timerArmed with
  | true => exact step_of_timerDue (State.timerDue_iff.2 ⟨hi, ha, by simp [hf]⟩)
  | false =>
    have hq : 4 ≤ s.rxQueue.length := by
      rcases hr with h | h
      · rcases hs with hs | hs <;> simp [State.timerArmed, hs, h, SeqState.reading] at ha
      · exact h
    rw [step_of_noInput (State.nextInput_none.2 ⟨hi, hf, ha⟩), ← deliver_outcome]
    rcases hs with hs | hs <;> (simp only [seqMove, hs]; rw [if_pos hq])

/-! ### Running the core -/

theorem run_zero (s : State) : Host.Core.run Sys2Proof.core 0 s = .next s := rfl

/-- One step more of any core. -/
theorem run_succ_of (M : Host.Core) (n : Nat) (s t : M.State) (h : M.step s = .next t) : M.run (n + 1) s = M.run n t := by
  rw [Host.Core.run, h]

/-- One step more of this core. -/
theorem run_succ {s t : State} (n : Nat) (h : step s = .next t) :
    Host.Core.run Sys2Proof.core (n + 1) s = Host.Core.run Sys2Proof.core n t :=
  run_succ_of Sys2Proof.core n s t h

/-- Runs join. -/
theorem run_add (M : Host.Core) (n m : Nat) (s t : M.State) (h : M.run n s = .next t) : M.run (n + m) s = M.run m t := by
  induction n generalizing s with
  | zero => rw [Host.Core.run] at h; cases h; rw [Nat.zero_add]
  | succ n ih =>
    rw [Host.Core.run] at h
    rw [Nat.succ_add, Host.Core.run]
    split at h
    · next s' hs' => exact ih _ h
    · cases h
    · cases h

end Sys2Proof.Machine
end

