-- ==== Sys2Proof/Tests/Slice0.lean ====
section
/-! SUPPORT. The model's own tests. Expected results come from the encoding tables of 30_encoding.md and from
95_test_vectors.md (W and V numbers), never from the model. Witnesses show that the hypotheses of the obligations can be
met together. -/

namespace Sys2Proof.Tests

open Sys2Proof Sys2Proof.Machine

/-! ### Small states -/

/-- The next state, if there is one. -/
def nextOf : Host.Outcome State Fault Refusal → Option State
  | .next s => some s
  | .fault _ => none
  | .refused _ => none

/-- The fault, if there is one. -/
def faultOf : Host.Outcome State Fault Refusal → Option Fault
  | .next _ => none
  | .fault f => some f
  | .refused _ => none

/-- The refusal, if there is one. -/
def refusalOf : Host.Outcome State Fault Refusal → Option Refusal
  | .next _ => none
  | .fault _ => none
  | .refused r => some r

/-- After reset, with the host's next move. -/
def host (x : Input) : State := { State.reset with addr := 0x05, arg := 0x07, inputs := [x] }

/-- Latches of an operation without a timeout and without echo. -/
def latchOf (op : Op) (addr arg : Byte) : Latch := ⟨op, addr, arg, false, effectiveTimeout false op⟩

/-- In SENDING. -/
def sending (op : Op) (addr arg : Byte) : State :=
  { State.reset with st := .sending, latch := latchOf op addr arg, inputs := [.seq] }

/-- In the operation's receive or listen step, with bytes queued. -/
def reading (op : Op) (queue : List Byte) : State :=
  { State.reset with st := op.afterSend, latch := latchOf op 0x05 0x00, rxQueue := queue, inputs := [.seq] }

/-- The same with a finite timeout and another next move. -/
def readingFor (op : Op) (queue : List Byte) (x : Input) : State :=
  { reading op queue with latch := { latchOf op 0x05 0x00 with tmo := .tmoVal }, inputs := [x] }

/-- Ended. -/
def ended (st : SeqState) (err : ErrKind) : State :=
  { State.reset with st := st, err := err, latch := latchOf .set 0x05 0x00 }

/-- Awaiting its response with its request sent: a state with the invariant that is not reset. -/
def awaitingSet (xs : List Input) : State :=
  { reading .set [] with tx := ⟨some 0x06, some 0x05, some 0x01, some 0x02⟩, txlog := [⟨0x06, 0x05, 0x01, 0x02⟩], inputs := xs }

/-- `STATUS` after one step. -/
def statusAfter (s : State) : Option Byte := (nextOf (step s)).map State.statusByte

/-! ### Well-formedness: a term that passes and an ill-formed one for each check -/

theorem test_wf_getPort_checksum : (Instr.getPort 0x05 0x00 0x07).wf = true ∧ (Instr.getPort 0x05 0x00 0x08).wf = false := by decide
theorem test_wf_getPort_data : (Instr.getPort 0x05 0x01 0x06).wf = false := by decide
theorem test_wf_setPort_checksum : (Instr.setPort 0x05 0xA5 0xA3).wf = true ∧ (Instr.setPort 0x05 0xA5 0xA2).wf = false := by decide
theorem test_wf_setSingle_checksum : (Instr.setSingle 0x05 0x01 0x02).wf = true ∧ (Instr.setSingle 0x05 0x01 0x03).wf = false := by decide
theorem test_wf_setSingle_selector : (Instr.setSingle 0x05 0x03 0x00).wf = false ∧ (Instr.setSingle 0x05 0x00 0x03).wf = false := by decide
theorem test_wf_delSingle_checksum : (Instr.delSingle 0x05 0x80 0x82).wf = true ∧ (Instr.delSingle 0x05 0x80 0x83).wf = false := by decide
theorem test_wf_delSingle_selector : (Instr.delSingle 0x05 0x81 0x83).wf = false := by decide
theorem test_wf_toggleReq_checksum : (Instr.toggleReq 0x05 0x04 0x09).wf = true ∧ (Instr.toggleReq 0x05 0x04 0x0D).wf = false := by decide
theorem test_wf_toggleReq_selector : (Instr.toggleReq 0x05 0x05 0x08).wf = false := by decide

/-! ### Decoding: words written out from R55, R59, R60, R62 -/

theorem test_decode_init : decode [0b10000000#8] = .ok (.init 0 false false) := by rfl
theorem test_decode_set : decode [0b10010001#8] = .ok (.set 0 true false) := by rfl
theorem test_decode_clear : decode [0b10001010#8] = .ok (.clear 0 false true) := by rfl
theorem test_decode_toggle : decode [0b10011011#8] = .ok (.toggle 0 true true) := by rfl
theorem test_decode_port : decode [0b11100100#8] = .ok (.port 3 false false) := by rfl
theorem test_decode_portSet : decode [0b10101101#8] = .ok (.portSet 1 false true) := by rfl
theorem test_decode_setup : decode [0x01, 0x01, 0x00, 0x00] = .ok .setup := by rfl
theorem test_decode_getPort : decode [0x02, 0x05, 0x00, 0x07] = .ok (.getPort 0x05 0x00 0x07) := by rfl
theorem test_decode_setPort : decode [0x03, 0x05, 0xA5, 0xA3] = .ok (.setPort 0x05 0xA5 0xA3) := by rfl
theorem test_decode_setSingle : decode [0x06, 0x05, 0x01, 0x02] = .ok (.setSingle 0x05 0x01 0x02) := by rfl
theorem test_decode_delSingle : decode [0x07, 0x05, 0x80, 0x82] = .ok (.delSingle 0x05 0x80 0x82) := by rfl
theorem test_decode_toggleReq : decode [0x08, 0x05, 0x04, 0x09] = .ok (.toggleReq 0x05 0x04 0x09) := by rfl
theorem test_decode_toggleOk : decode [0xF7, 0x05, 0x04, 0xF6] = .ok (.toggleOk 0x05 0x04 0xF6) := by rfl
theorem test_decode_delSingleOk : decode [0xF8, 0x05, 0x80, 0x7D] = .ok (.delSingleOk 0x05 0x80 0x7D) := by rfl
theorem test_decode_setSingleOk : decode [0xF9, 0x05, 0x01, 0xFD] = .ok (.setSingleOk 0x05 0x01 0xFD) := by rfl
theorem test_decode_setPortOk : decode [0xFC, 0x05, 0xA5, 0x5C] = .ok (.setPortOk 0x05 0xA5 0x5C) := by rfl
theorem test_decode_getPortOk : decode [0xFD, 0x05, 0x05, 0xFD] = .ok (.getPortOk 0x05 0x05 0xFD) := by rfl
theorem test_decode_announce : decode [0xFE, 0x01, 0x03, 0xFC] = .ok (.announce 0x01 0x03 0xFC) := by rfl
theorem test_decode_error : decode [0xFF, 0x05, 0x00, 0xFA] = .ok (.error 0x05 0x00 0xFA) := by rfl
theorem test_decode_reserved : decode [0x86#8] = .error (.reservedOp 6) ∧ decode [0xFF#8] = .error (.reservedOp 7) ∧
    decode [0x7F#8] = .error (.notStart 0x7F) := ⟨rfl, rfl, rfl⟩
theorem test_decode_unlisted : decode [0xFB, 0x02, 0x00, 0xF9] = .error (.unlistedCode 0xFB) ∧
    decode [0x04, 0x05, 0x00, 0x01] = .error (.unlistedCode 0x04) ∧
    decode [0x01, 0x02, 0x00, 0x03] = .error (.notSetup ⟨0x01, 0x02, 0x00, 0x03⟩) := ⟨rfl, rfl, rfl⟩

/-! ### The host's table words: `W = b0<<24 | b1<<16 | b2<<8 | b3` (R45), each run as the first instruction after reset -/

theorem test_table_words : decodeTableWord 8 0x81 = some (.set 0 false false) ∧
    decodeTableWord 32 0x06050102 = some (.setSingle 0x05 0x01 0x02) ∧
    decodeTableWord 32 0xFD0505FD = some (.getPortOk 0x05 0x05 0xFD) ∧ decodeTableWord 16 0x8181 = none := by decide
theorem test_first_after_reset_hostCmd : [0x80, 0x81, 0x82, 0x83, 0x84, 0x85].all (fun w =>
    statusAfter (State.reset.withFetchWord 8 w) == some 0x41) = true := by decide
theorem test_first_after_reset_request : [0x02000002, 0x03000003, 0x06000107, 0x07000106, 0x08000109].all (fun w =>
    statusAfter (State.reset.withFetchWord 32 w) == some 0x42) = true := by decide
theorem test_first_after_reset_setup : statusAfter (State.reset.withFetchWord 32 0x01010000) = some 0x43 := by decide
theorem test_first_after_reset_response : [0xF70000F7, 0xF80000F8, 0xF90000F9, 0xFC0000FC, 0xFD0000FD].all (fun w =>
    statusAfter (State.reset.withFetchWord 32 w) == some 0x84) = true := by decide
theorem test_first_after_reset_announce : statusAfter (State.reset.withFetchWord 32 0xFE0000FE) = some 0x43 := by decide
theorem test_first_after_reset_error : statusAfter (State.reset.withFetchWord 32 0xFF0000FF) = some 0xB5 := by decide

/-! ### One step of each start command (V55 to V58, V65) -/

theorem test_init_latches : (nextOf (step (host (.write 0 0x80)))).map (fun t => (t.statusByte, t.latch)) =
    some (0x41, ⟨.discover, 0x05, 0x07, false, .discDefault⟩) := by decide
theorem test_init_configured_timeout : (nextOf (step (host (.write 0 0x90)))).map (fun t => t.latch) =
    some ⟨.discover, 0x05, 0x07, false, .tmoVal⟩ := by decide
theorem test_set_reserved_bits : (nextOf (step (host (.write 0 0xE1)))).map (fun t => (t.statusByte, t.ctrlByte)) =
    some (0x41, 0x01) := by decide
theorem test_clear_no_timeout : (nextOf (step (host (.write 0 0x82)))).map (fun t => t.latch) =
    some ⟨.clear, 0x05, 0x07, false, .none⟩ := by decide
theorem test_toggle_timeout : (nextOf (step (host (.write 0 0x93)))).map (fun t => t.latch) =
    some ⟨.toggle, 0x05, 0x07, false, .tmoVal⟩ := by decide
theorem test_port_starts : (nextOf (step (host (.write 0 0x84)))).map (fun t => t.latch.op) = some .portRead := by decide
theorem test_portSet_debug : (nextOf (step (host (.write 0 0x8D)))).map (fun t => t.latch) =
    some ⟨.portWrite, 0x05, 0x07, true, .none⟩ := by decide
theorem test_start_after_failure : (nextOf (step { ended .failed .commandFailed with inputs := [.write 0 0x81], rsp := ⟨some 0xF8, some 5, some 1⟩ })).map
    (fun t => (t.statusByte, t.rsp)) = some (0x41, ⟨none, none, none⟩) := by decide
theorem test_start_busy_refused : refusalOf (step { reading .set [] with inputs := [.write 0 0x84] }) = some .startWhileBusy := by decide
theorem test_start_reserved_refused : refusalOf (step (host (.write 0 0x86))) = some (.reservedOp 6) ∧
    refusalOf (step (host (.write 0 0x87))) = some (.reservedOp 7) := by decide

/-! ### One send step of each request (W11, V20, V26, V29, V34, V36) -/

theorem test_setup_sent : (nextOf (step (sending .discover 0x37 0x00))).map (fun t => (t.txlog, t.statusByte)) =
    some ([⟨0x01, 0x01, 0x00, 0x00⟩], 0x43) := by decide
theorem test_setSingle_sent : (nextOf (step (sending .set 0x05 0x07))).map (fun t => (t.txlog, t.statusByte)) =
    some ([⟨0x06, 0x05, 0x80, 0x83⟩], 0x42) := by decide
theorem test_setSingle_ignores_high_bits : (nextOf (step (sending .set 0x05 0xF8))).map (fun t => t.txlog) =
    some [⟨0x06, 0x05, 0x01, 0x02⟩] := by decide
theorem test_delSingle_sent : (nextOf (step (sending .clear 0x05 0x07))).map (fun t => (t.txlog, t.statusByte)) =
    some ([⟨0x07, 0x05, 0x80, 0x82⟩], 0x42) := by decide
theorem test_toggleReq_sent : (nextOf (step (sending .toggle 0x10 0x06))).map (fun t => (t.txlog, t.statusByte)) =
    some ([⟨0x08, 0x10, 0x40, 0x58⟩], 0x42) := by decide
theorem test_getPort_sent : (nextOf (step (sending .portRead 0x03 0x5A))).map (fun t => (t.txlog, t.statusByte)) =
    some ([⟨0x02, 0x03, 0x00, 0x01⟩], 0x42) := by decide
theorem test_setPort_sent : (nextOf (step (sending .portWrite 0x05 0xA5))).map (fun t => (t.txlog, t.tx)) =
    some ([⟨0x03, 0x05, 0xA5, 0xA3⟩], ⟨some 0x03, some 0x05, some 0xA5, some 0xA3⟩) := by decide

/-! ### One receive or listen step of each response (V20 to V50, V66 to V70) -/

theorem test_setSingleOk_success : (nextOf (step (reading .set [0xF9, 0x07, 0x20, 0xDE]))).map (fun t => (t.statusByte, t.rsp)) =
    some (0x84, ⟨some 0xF9, some 0x07, some 0x20⟩) := by decide
theorem test_setSingleOk_wrong_operation : statusAfter (reading .toggle [0xF9, 0x05, 0x04, 0xF8]) = some 0xB5 := by decide
theorem test_delSingleOk_success : statusAfter (reading .clear [0xF8, 0x05, 0x80, 0x7D]) = some 0x84 := by decide
theorem test_delSingleOk_wrong_operation : statusAfter (reading .set [0xF8, 0x05, 0x01, 0xFC]) = some 0xB5 := by decide
theorem test_toggleOk_success : statusAfter (reading .toggle [0xF7, 0x10, 0x40, 0xA7]) = some 0x84 := by decide
theorem test_toggleOk_bad_checksum : (nextOf (step (reading .toggle [0xF7, 0x05, 0x04, 0xF7]))).map (fun t => (t.statusByte, t.rx, t.rsp)) =
    some (0xA5, ⟨4, some 0xF7, some 0x05, some 0x04, some 0xF7⟩, ⟨none, none, none⟩) := by decide
theorem test_setPortOk_success : (nextOf (step (reading .portWrite [0xFC, 0x05, 0xA5, 0x5C]))).map (fun t => (t.statusByte, t.result)) =
    some (0x84, none) := by decide
theorem test_getPortOk_success : (nextOf (step (reading .portRead [0xFD, 0x05, 0x05, 0xFD]))).map (fun t => (t.statusByte, t.result)) =
    some (0x84, some 0x05) := by decide
theorem test_getPortOk_ignored_by_discover : (nextOf (step (reading .discover [0xFD, 0x05, 0x05, 0xFD]))).map (fun t => (t.statusByte, t.reports)) =
    some (0x43, []) := by decide
theorem test_announce_reported : (nextOf (step (reading .discover [0xFE, 0x01, 0x03, 0xFC, 0xFE]))).map (fun t => (t.statusByte, t.reports, t.rxQueue)) =
    some (0x43, [⟨0x01, 0x03⟩], [0xFE]) := by decide
theorem test_announce_in_single_shot : statusAfter (reading .portRead [0xFE, 0x03, 0x01, 0xFC]) = some 0xB5 := by decide
theorem test_error_single_shot : (nextOf (step (reading .set [0xFF, 0x05, 0x00, 0xFA]))).map (fun t => (t.statusByte, t.rsp.rcode)) =
    some (0xB5, some 0xFF) := by decide
theorem test_error_stops_discover : (nextOf (step (reading .discover [0xFF, 0x01, 0x00, 0xFE, 0xFE, 0x02, 0x07, 0xFB]))).map (fun t => (t.statusByte, t.rxQueue)) =
    some (0xB5, [0xFE, 0x02, 0x07, 0xFB]) := by decide
theorem test_error_bad_checksum : statusAfter (reading .discover [0xFF, 0x05, 0x00, 0xFB]) = some 0xA5 := by decide
theorem test_unlisted_code_passes : (nextOf (step (reading .discover [0xFB, 0x02, 0x00, 0xF9]))).map (fun t => (t.statusByte, t.rsp.rcode)) =
    some (0x43, some 0xFB) := by decide
theorem test_short_read_single_shot : (nextOf (step (readingFor .portRead [0xFD, 0x05] .expire))).map (fun t => (t.statusByte, t.rx)) =
    some (0x95, ⟨2, some 0xFD, some 0x05, none, none⟩) := by decide
theorem test_short_read_discover : (nextOf (step (readingFor .discover [0xFF] .expire))).map (fun t => (t.statusByte, t.rx.rxn)) =
    some (0x84, 1) := by decide
theorem test_lost_byte_window : (nextOf (step (reading .discover [0x01, 0x03, 0xFC, 0xFE, 0x02, 0x07, 0xFB]))).map
    (fun t => (t.statusByte, t.rsp, t.rxQueue)) = some (0x43, ⟨some 0x01, some 0x03, some 0xFC⟩, [0x02, 0x07, 0xFB]) := by decide
theorem test_wait_without_timeout : nextOf (step { reading .set [0xF9] with inputs := [] }) =
    some { reading .set [0xF9] with inputs := [] } := by decide
theorem test_echo_before_check : (nextOf (step { reading .set [0xFF, 0x05, 0x00, 0xFB] with
    latch := ⟨.set, 0x05, 0x00, true, .none⟩ })).map (fun t => (t.statusByte, t.echoes)) =
    some (0xA5, [⟨.rx, ⟨0xFF, 0x05, 0x00, 0xFB⟩⟩]) := by decide

/-! ### Host registers (V55, V56, V62 to V64) -/

/-- A state with another byte in every register. -/
def filled : State :=
  { State.reset with
    ctrl := ⟨5, true, false⟩, addr := 0x11, arg := 0x12, st := .failed, err := .commandFailed, result := some 0x14,
    rsp := ⟨some 0x15, some 0x16, some 0x17⟩, rx := ⟨4, some 0x19, some 0x1A, some 0x1B, some 0x1C⟩,
    tx := ⟨some 0x1D, some 0x1E, some 0x1F, some 0x20⟩ }

theorem test_read_map : (List.range 17).map (fun i => filled.reg (BitVec.ofNat 8 i)) =
    [.value 0x0D, .value 0x11, .value 0x12, .value 0xB5, .value 0x14, .value 0x15, .value 0x16, .value 0x17, .value 0x04,
     .value 0x19, .value 0x1A, .value 0x1B, .value 0x1C, .value 0x1D, .value 0x1E, .value 0x1F, .value 0x20] := by decide
theorem test_read_unwritten : [4, 5, 6, 7, 9, 10, 11, 12, 13, 14, 15, 16].all (fun i =>
    faultOf (step (host (.read (BitVec.ofNat 8 i)))) == some (.unwrittenRead (BitVec.ofNat 8 i))) = true := by decide
theorem test_read_reserved : refusalOf (step (host (.read 17))) = some (.reservedIndex 17) ∧
    refusalOf (step (host (.read 255))) = some (.reservedIndex 255) := by decide
theorem test_write_reserved : refusalOf (step (host (.write 17 0))) = some (.reservedIndex 17) ∧
    refusalOf (step (host (.write 255 0))) = some (.reservedIndex 255) := by decide
theorem test_write_without_start : (nextOf (step (host (.write 0 0x01)))).map (fun t => (t.ctrlByte, t.statusByte)) =
    some (0x01, 0x00) := by decide
theorem test_write_readOnly : nextOf (step (host (.write 3 0xFF))) = some { State.reset with addr := 0x05, arg := 0x07 } ∧
    nextOf (step (host (.write 16 0xFF))) = some { State.reset with addr := 0x05, arg := 0x07 } := by decide
theorem test_write_addr_arg : (nextOf (step (host (.write 1 0x09)))).map State.addr = some 0x09 ∧
    (nextOf (step (host (.write 2 0xFF)))).map State.arg = some 0xFF := by decide
theorem test_reset_registers : State.reset.statusByte = 0x00 ∧ State.reset.ctrlByte = 0x00 ∧ State.reset.rxnByte = 0x00 := by decide
theorem test_reset_when_idle : nextOf (step { filled with rxQueue := [0xFE], inputs := [.reset] }) =
    some { State.reset with rxQueue := [0xFE] } := by decide

/-! ### Codec and command lines (V1 to V8, P2) -/

theorem test_checksum : checksum 0x55 0xAA 0xFF = 0x00 ∧ checksum 0x3C 0x3C 0x9A = 0x9A := by decide
theorem test_encode : packFrame 0x07 0x05 0x80 = ⟨0x07, 0x05, 0x80, 0x82⟩ ∧ packFrame 0x04 0x05 0x00 = ⟨0x04, 0x05, 0x00, 0x01⟩ := by decide
theorem test_cli_port_set : CliLine.expand ⟨0x05, false, true, .portSet 0xA5⟩ =
    [.write 1 0x05, .write 2 0xA5, .write 0 0x8D] := by decide
theorem test_cli_toggle : CliLine.expand ⟨0x05, true, false, .toggle 3⟩ = [.write 1 0x05, .write 2 0x02, .write 0 0x93] := by decide

/-! ### Witnesses: the hypotheses of each obligation, met together on concrete states -/

theorem test_witness_hostReset : (host .reset).nextInput = some .reset ∧ (host .reset).busy = false ∧
    ({ reading .set [] with inputs := [.reset] } : State).busy = true := by decide
theorem test_witness_hostRead : [0, 1, 2, 3, 4, 5, 6, 7, 8, 9, 10, 11, 12, 13, 14, 15, 16, 17, 255].all (fun n =>
    decide ((host (.read (BitVec.ofNat 8 n))).nextInput = some (.read (BitVec.ofNat 8 n)))) = true ∧
    16 < (17#8 : Byte).toNat ∧ 16 < (255#8 : Byte).toNat := by decide
theorem test_witness_hostRead_written : [filled.result, filled.rsp.rcode, filled.rsp.raddr, filled.rsp.rdata, filled.rx.rxb0,
    filled.rx.rxb1, filled.rx.rxb2, filled.rx.rxb3, filled.tx.txb0, filled.tx.txb1, filled.tx.txb2, filled.tx.txb3].all
    Option.isSome = true := by decide
theorem test_witness_hostWrite_ctrl : (host (.write 0 0x7F)).nextInput = some (.write 0 0x7F) ∧ (0x7F#8 : Byte).getLsbD 7 = false := by decide
theorem test_witness_hostWrite_clauses : (host (.write 1 0xFF)).nextInput = some (.write 1 0xFF) ∧
    (host (.write 2 0xFF)).nextInput = some (.write 2 0xFF) ∧
    (host (.write 3 0xFF)).nextInput = some (.write 3 0xFF) ∧ 3 ≤ (3#8 : Byte).toNat ∧ (3#8 : Byte).toNat ≤ 16 ∧
    (host (.write 16 0xFF)).nextInput = some (.write 16 0xFF) ∧ 3 ≤ (16#8 : Byte).toNat ∧ (16#8 : Byte).toNat ≤ 16 ∧
    (host (.write 17 0xFF)).nextInput = some (.write 17 0xFF) ∧ 16 < (17#8 : Byte).toNat := by decide
theorem test_witness_ctrlReadsBack : (host (.write 0 0x7F)).nextInput = some (.write 0 0x7F) ∧
    (nextOf (step (host (.write 0 0x7F)))).isSome = true ∧ (host (.write 0 0xFD)).nextInput = some (.write 0 0xFD) ∧
    (nextOf (step (host (.write 0 0xFD)))).isSome = true := by decide
theorem test_witness_badChecksum_bytes : (0xFC#8 : Byte) ≠ 0xF9#8 ^^^ 0x05#8 ^^^ 0x01#8 ∧ ([] : List Byte).length ≠ 4 ∧
    ([1, 2, 3] : List Byte).length ≠ 4 ∧ ([1, 2, 3, 4, 5] : List Byte).length ≠ 4 := by decide
theorem test_witness_checksumStrength : (0xF9#8 : Byte) ^^^ 0x05#8 ^^^ 0x01#8 ^^^ 0xFD#8 = 0 ∧ (0x01#8 : Byte) ≠ 0 := by decide
theorem test_witness_lostByte : validate (Frame.toList ⟨0xFE, 0x01, 0x03, 0xFC⟩) = .ok ⟨0xFE, 0x01, 0x03⟩ ∧
    validate (Frame.toList ⟨0xFE, 0x02, 0x07, 0xFB⟩) = .ok ⟨0xFE, 0x02, 0x07⟩ ∧
    validate (Frame.toList ⟨0xFD, 0x05, 0x05, 0xFD⟩) = .ok ⟨0xFD, 0x05, 0x05⟩ := ⟨rfl, rfl, rfl⟩
theorem test_witness_encodeDecode : decode [0x02, 0x05, 0x00, 0x07] = .ok (.getPort 0x05 0x00 0x07) := by rfl
theorem test_witness_rejected : (0x7F#8 : Byte).getLsbD 7 = false ∧
    (0x86#8 : Byte).getLsbD 7 = true ∧ 6 ≤ ((0x86#8 : Byte).extractLsb' 0 3).toNat ∧
    (0xFF#8 : Byte).getLsbD 7 = true ∧ 6 ≤ ((0xFF#8 : Byte).extractLsb' 0 3).toNat ∧
    (0x85#8 : Byte).getLsbD 7 = true ∧ ((0x85#8 : Byte).extractLsb' 0 3).toNat < 6 ∧
    ([] : List Byte).length ≠ 1 ∧ ([] : List Byte).length ≠ 4 ∧ ([1, 2, 3, 4, 5] : List Byte).length ≠ 1 ∧
    ([1, 2, 3, 4, 5] : List Byte).length ≠ 4 := by decide
theorem test_witness_start_idle : (host (.write 0 0x81)).st = .idle ∧ (ended .success .none).st = .success ∧
    (ended .failed .length).st = .failed := by decide
theorem test_witness_startWhileBusy : formatOf (.set 0 false false) = .hostCmd ∧ (sending .set 5 0).st = .sending ∧
    (reading .set []).st = .awaiting ∧ (reading .discover []).st = .listening := by decide
theorem test_witness_reservedOperation : (host (.write 0 0x86)).nextInput = some (.write 0 0x86) ∧
    (0x86#8 : Byte).getLsbD 7 = true ∧ (0x86#8 : Byte).extractLsb' 0 3 = 6#3 ∧
    (host (.write 0 0x87)).nextInput = some (.write 0 0x87) ∧ (0x87#8 : Byte).getLsbD 7 = true ∧
    (0x87#8 : Byte).extractLsb' 0 3 = 7#3 := by decide
theorem test_witness_reservedOperation_busy : (awaitingSet [.write 0 0x86]).busy = true ∧
    (awaitingSet [.write 0 0x86]).nextInput = some (.write 0 0x86) ∧
    refusalOf (step (awaitingSet [.write 0 0x86])) = some (.reservedOp 6) := by decide
theorem test_witness_setupSent : (sending .discover 0x37 0).st = .sending ∧
    (sending .discover 0x37 0).latch = (latchOf .discover 0x37 0) ∧ (latchOf .discover 0x37 0).op = .discover := by decide
theorem test_witness_requestSent : [Op.set, .clear, .toggle, .portRead, .portWrite].all (fun op =>
    decide ((sending op 5 7).st = .sending ∧ (sending op 5 7).latch = (latchOf op 5 7) ∧ (latchOf op 5 7).op = op)) = true := by decide
theorem test_witness_requestStops : formatOf (.getPort 5 0 7) = .req ∧ (reading .set []).st ≠ .sending ∧
    (sending .set 5 0).st = .sending ∧ (sending .set 5 0).latch = (latchOf .set 5 0) ∧
    encode (.getPort 5 0 7) ≠ (latchOf .set 5 0).request.toList := by decide
theorem test_witness_expectedResponse : [Op.set, .clear, .toggle, .portRead, .portWrite].all (fun op =>
    decide ((reading op []).st = .awaiting ∧ (reading op []).latch = (latchOf op 5 0) ∧ (latchOf op 5 0).op = op)) = true := by decide
theorem test_witness_unexpectedCode : (reading .set [0xF8, 5, 1, 0xFC]).st = .awaiting ∧
    (reading .set [0xF8, 5, 1, 0xFC]).latch = (latchOf .set 5 0) ∧ (reading .set [0xF8, 5, 1, 0xFC]).nextInput = some .seq ∧
    (reading .set [0xF8, 5, 1, 0xFC]).rxQueue = 0xF8#8 :: 0x05#8 :: 0x01#8 :: (0xF8#8 ^^^ 0x05#8 ^^^ 0x01#8) :: [] ∧
    0xF8#8 ≠ (latchOf .set 5 0).op.expect := by decide
theorem test_witness_listening : (reading .discover []).st = .listening ∧
    (reading .discover []).latch = (latchOf .discover 5 0) ∧ (latchOf .set 5 0).op ≠ .discover := by decide
theorem test_witness_otherCode : (reading .discover [0xFD, 5, 5, 0xFD]).st = .listening ∧
    (reading .discover [0xFD, 5, 5, 0xFD]).nextInput = some .seq ∧
    (reading .discover [0xFD, 5, 5, 0xFD]).rxQueue = 0xFD#8 :: 0x05#8 :: 0x05#8 :: (0xFD#8 ^^^ 0x05#8 ^^^ 0x05#8) :: [] ∧
    (0xFD#8 : Byte) ≠ 254 ∧ (0xFD#8 : Byte) ≠ 255 := by decide
theorem test_witness_badChecksum : (reading .set [0xF9, 5, 1, 0xFC]).st = .awaiting ∧
    (reading .discover [0xF9, 5, 1, 0xFC]).st = .listening ∧
    (reading .set [0xF9, 5, 1, 0xFC]).rxQueue = 0xF9#8 :: 0x05#8 :: 0x01#8 :: 0xFC#8 :: [] ∧
    (0xFC#8 : Byte) ≠ 0xF9#8 ^^^ 0x05#8 ^^^ 0x01#8 := by decide
theorem test_witness_shortRead : [[], [0xFE], [0xFE, 0x01], [0xFE, 0x01, 0x03]].all (fun q => [Op.discover, .set].all (fun op =>
    decide ((readingFor op q .expire).st = op.afterSend ∧
      (readingFor op q .expire).latch = { latchOf op 5 0 with tmo := .tmoVal } ∧
      (readingFor op q .expire).rxQueue.length < 4 ∧ (readingFor op q .expire).nextInput = some .expire ∧
      Timeout.tmoVal ≠ .none ∧ ({ reading op q with inputs := [.disconnect] } : State).nextInput = some .disconnect))) = true := by decide
theorem test_witness_priority : (reading .set []).err = .none ∧ (reading .set []).st = .awaiting ∧
    [[], [0xF9, 5, 1, 0xFC], [0xF8, 5, 1, 0xFC], [0xF9, 5, 1, 0xFD]].map
      (fun r => (nextOf (receiveStep r (reading .set []))).map State.err) =
      [some .length, some .checksum, some .commandFailed, some .none] := by decide
theorem test_witness_responseStops : formatOf (.announce 1 3 0xFC) = .rsp ∧ (sending .set 5 0).st ≠ .awaiting ∧
    (sending .set 5 0).st ≠ .listening := by decide
theorem test_witness_frames : (nextOf (exec (.set 0 true true) State.reset)).isSome = true ∧
    (nextOf (exec (.setSingle 5 1 2) (sending .set 5 0))).isSome = true ∧
    (nextOf (exec (.announce 1 3 0xFC) (reading .discover []))).isSome = true ∧
    (nextOf (exec (.getPortOk 5 5 0xFD) (reading .portRead []))).isSome = true ∧
    (nextOf (exec (.error 5 0 0xFB) (reading .set []))).isSome = true := by decide
theorem test_witness_stepRuns : (host (.write 0 0x91)).nextInput = some (.write 0 0x91) ∧ decode [0x91#8] = .ok (.set 0 true false) ∧
    (sending .set 5 0).nextInput = some .seq ∧ (sending .set 5 0).st = .sending ∧
    (sending .set 5 0).latch = (latchOf .set 5 0) ∧
    (reading .discover [0xFE, 1, 3, 0xFC]).nextInput = some .seq ∧ (reading .discover [0xFE, 1, 3, 0xFC]).st = .listening ∧
    (reading .discover [0xFE, 1, 3, 0xFC]).rxQueue = 0xFE#8 :: 0x01#8 :: 0x03#8 :: 0xFC#8 :: [] ∧
    decode [0xFE, 0x01, 0x03, 0xFC] = .ok (.announce 1 3 0xFC) ∧ formatOf (.announce 1 3 0xFC) = .rsp :=
  ⟨rfl, rfl, rfl, rfl, rfl, rfl, rfl, rfl, rfl, rfl⟩
theorem test_witness_takesNoStep : State.reset.st = .idle ∧ (ended .success .none).st = .success ∧
    (ended .failed .checksum).st = .failed ∧ State.reset.nextInput = none ∧
    (host .seq).nextInput = some .seq ∧ (host .expire).nextInput = some .expire ∧
    (host .disconnect).nextInput = some .disconnect ∧ (host (.arrive [1])).nextInput = some (.arrive [1]) ∧
    (host .arriveAny).nextInput = some .arriveAny := by decide

theorem test_witness_invariant (xs : List Input) : (awaitingSet xs).Inv := by
  constructor <;> simp [awaitingSet, reading, State.reset, latchOf, Op.afterSend]
  · constructor <;> simp [RxRegs.cleared]
  · decide

theorem test_witness_invariant_steps : [Input.seq, .write 0 0x01, .disconnect, .arrive [0xF9], .read 3].all (fun x =>
    (nextOf (step (awaitingSet [x]))).isSome) = true := by decide
theorem test_witness_stops : faultOf (step (awaitingSet [.read 4])) = some (.unwrittenRead 4) ∧
    refusalOf (step (awaitingSet [.read 17])) = some (.reservedIndex 17) ∧
    refusalOf (step (awaitingSet [.write 17 0])) = some (.reservedIndex 17) ∧
    refusalOf (step (awaitingSet [.write 0 0x87])) = some (.reservedOp 7) ∧
    refusalOf (step (awaitingSet [.write 0 0x81])) = some .startWhileBusy := by decide
theorem test_witness_framesLeave : (nextOf (step (sending .set 5 0))).map State.txlog = some [⟨0x06, 0x05, 0x01, 0x02⟩] ∧
    (nextOf (step (sending .discover 5 0))).map State.st = some .listening ∧
    (nextOf (step (host .reset))).map State.txlog = some [] := by decide
theorem test_witness_reads : (nextOf (step (reading .set [0xF9, 5, 1, 0xFD, 7]))).map (fun t => (t.rxlog, t.rxQueue)) =
    some ([[0xF9, 5, 1, 0xFD]], [7]) ∧ (reading .set [0xF9, 5, 1, 0xFD, 7]).nextInput ≠ some .reset ∧
    (nextOf (step (host (.arrive [1, 2])))).map (fun t => (t.rxlog, t.rxQueue)) = some ([], [1, 2]) ∧
    (host (.arrive [1, 2])).nextInput ≠ some .reset ∧ (host .arriveAny).nextInput ≠ some .reset := by decide
theorem test_witness_ended : (ended .success .none).st = .success ∧ (nextOf (step (ended .success .none))).isSome = true ∧
    (nextOf (step { ended .failed .length with inputs := [.write 0 0x81] })).map State.st = some .sending ∧
    (nextOf (step { ended .failed .length with inputs := [.reset] })).map State.st = some .idle := by decide
theorem test_witness_exits : (reading .discover []).st = .listening ∧
    (nextOf (step (readingFor .discover [] .expire))).map State.st = some .success ∧
    (nextOf (step (reading .discover [0xFE, 2, 7, 0xFA]))).map State.st = some .failed ∧
    (nextOf (step (reading .discover [0xFF, 1, 0, 0xFE]))).map State.st = some .failed := by decide
theorem test_witness_err : (nextOf (step { ended .failed .length with inputs := [.write 0 0x81] })).map State.err = some .none ∧
    (nextOf (step (reading .set [0xF8, 5, 1, 0xFC]))).map State.err = some .commandFailed := by decide
theorem test_witness_result : (nextOf (step (reading .portRead [0xFD, 5, 5, 0xFD]))).map State.result = some (some 5) ∧
    (reading .portRead [0xFD, 5, 5, 0xFD]).result ≠ some 5 ∧
    (nextOf (step { filled with inputs := [.write 0 0x81] })).map State.result = some none ∧ filled.result ≠ none := by decide
theorem test_witness_ignoresHostRegisters : (reading .set [0xF9, 5, 1, 0xFD]).nextInput = some .seq ∧
    (nextOf (step ((reading .set [0xF9, 5, 1, 0xFD]).withHostRegs ⟨4, true, true⟩ 9 9))).map State.statusByte = some 0x84 := by decide
theorem test_witness_latch_unread : (host (.write 0 0x81)).st = .idle ∧ (host .reset).st = .idle ∧
    nextOf (step { host (.write 0 0x81) with latch := latchOf .portRead 9 9 }) = nextOf (step (host (.write 0 0x81))) := by decide
theorem test_witness_idleLeft : (host (.write 0 0x81)).st = .idle ∧ (nextOf (step (host (.write 0 0x81)))).map State.st = some .sending ∧
    (nextOf (step (host .expire))).map State.st = some .idle ∧ (nextOf (step (host (.write 2 9)))).map State.st = some .idle := by decide
theorem test_witness_sendingLeft : (sending .set 5 0).st = .sending ∧
    (nextOf (step (sending .set 5 0))).map State.st = some .awaiting ∧
    (nextOf (step (sending .discover 5 0))).map State.st = some .listening ∧
    (nextOf (step { sending .set 5 0 with inputs := [.reset] })).isSome = true ∧
    (nextOf (step { sending .set 5 0 with inputs := [.expire] })).map State.st = some .sending := by decide
theorem test_witness_awaitingLeft : (reading .set []).st = .awaiting ∧
    [[0xF9, 5, 1, 0xFD], [0xF8, 5, 1, 0xFC], [0xF9, 5, 1, 0xFC]].map (fun q => (nextOf (step (reading .set q))).map
      (fun t => (t.st, t.err))) =
      [some (.success, .none), some (.failed, .commandFailed), some (.failed, .checksum)] ∧
    (nextOf (step (readingFor .set [1, 2, 3] .expire))).map (fun t => (t.st, t.err)) = some (.failed, .length) ∧
    (nextOf (step { reading .set [] with inputs := [.reset] })).isSome = true := by decide
theorem test_witness_debug : (reading .set [0xF9, 5, 1, 0xFD]).latch = (latchOf .set 5 0) ∧ (latchOf .set 5 0).dbg = false ∧
    (nextOf (step (reading .set [0xF9, 5, 1, 0xFD]))).map State.echoes = some [] := by decide
theorem test_witness_hang : (reading .set [1, 2, 3]).st = .awaiting ∧ (reading .set [1, 2, 3]).latch = (latchOf .set 5 0) ∧
    (latchOf .set 5 0).tmo = .none ∧ (reading .set [1, 2, 3]).rxQueue.length < 4 ∧
    ({ reading .set [1, 2, 3] with inputs := [] } : State).nextInput = none ∧
    (reading .set [1, 2, 3]).nextInput = some .seq ∧
    ({ reading .set [1, 2, 3] with inputs := [.expire] } : State).nextInput = some .expire := by decide
theorem test_witness_singleShotEnds :
    let l : Latch := ⟨.set, 0x05, 0x00, false, .tmoVal⟩
    let s : State := { sending .set 0x05 0x00 with latch := l, inputs := [] }
    s.st = .sending ∧ s.latch = l ∧ l.op ≠ .discover ∧ l.tmo.finite = true ∧ s.nextInput = none := by decide
theorem test_witness_discoveryEnds :
    let s : State := { reading .discover [0xFE, 1, 3, 0xFC] with inputs := [] }
    s.st = .listening ∧ s.latch = (latchOf .discover 5 0) ∧ (latchOf .discover 5 0).tmo.finite = true ∧ s.inputs = [] ∧
      s.forever = [] := by decide

/-- A timed read while the host polls `STATUS` without end (R121). -/
def polled (op : Op) (queue : List Byte) : State :=
  { readingFor op queue .seq with inputs := [], forever := [.read 3, .seq] }

theorem test_witness_polled : (polled .set [0xF9]).st = .awaiting ∧ (polled .discover []).st = .listening ∧
    (polled .set [0xF9]).latch.tmo ≠ .none ∧ (polled .set [0xF9]).inputs = [] ∧ (polled .discover []).inputs = [] ∧
    (∀ x ∈ (polled .discover []).forever, x = .seq ∨ x = .read 3) := by decide
theorem test_witness_allowed : ∀ x ∈ (polled .set [0xF9]).inputs ++ (polled .set [0xF9]).forever ++
    [.write 0 0x01, .arrive [1], .arriveAny, .expire, .disconnect], x.allowedWhileBusy := by
  simp [polled, readingFor, reading, Input.allowedWhileBusy]
theorem test_polled_timer_runs_out : (polled .set [0xF9]).timerDue = false ∧
    statusAfter { polled .set [0xF9] with waited := 2 } = some 0x95 ∧
    { polled .set [0xF9] with waited := 2 : State }.timerDue = true := by decide
theorem test_witness_polled_hang :
    let s : State := { reading .set [0xF9] with inputs := [], forever := [.read 3, .seq], waited := 9 }
    s.st = .awaiting ∧ s.latch.tmo = .none ∧ s.timerDue = false ∧ s.nextInput = some (.read 3) ∧
      (∀ x ∈ s.forever, x = .seq ∨ x = .read 3) := by decide
theorem test_witness_wholeChain :
    let c : CliLine := ⟨0x00, false, false, .init⟩
    let found : List Report := [⟨1, 3⟩, ⟨2, 7⟩]
    let s : State := { State.reset with inputs := c.expand, rxQueue := [0xFE, 1, 3, 0xFC, 0xFE, 2, 7, 0xFB] }
    s.busy = false ∧ c.command = .init ∧ s.inputs = c.expand ∧ s.forever = [] ∧
      s.rxQueue = found.flatMap (fun p => [254, p.addr, p.fw, 254 ^^^ p.addr ^^^ p.fw]) := by decide
theorem test_witness_commandLine :
    let c : CliLine := ⟨0x05, false, false, .port⟩
    let s : State := { ended .failed .length with inputs := c.expand, rxQueue := [0xFD, 5, 5, 0xFD, 9] }
    s.busy = false ∧ c.command.op ≠ .discover ∧ s.inputs = c.expand ∧ s.forever = [] ∧
      s.rxQueue = c.command.op.expect :: 5 :: 5 :: (c.command.op.expect ^^^ 5 ^^^ 5) :: [9] := by decide
theorem test_witness_launch : Launch (.next { State.reset with inputs := CliLine.expand ⟨5, true, false, .set 1⟩ })
    { State.reset with inputs := CliLine.expand ⟨5, true, false, .set 1⟩ } true .set where
  noFault := by intro f h; cases h
  launched := rfl
  clean := .inl (by decide)
  finiteTmo := .inl rfl
theorem test_witness_launch_discover : Launch (.next { ended .failed .length with inputs := CliLine.expand ⟨0, false, false, .init⟩ })
    { ended .failed .length with inputs := CliLine.expand ⟨0, false, false, .init⟩ } false .discover where
  noFault := by intro f h; cases h
  launched := rfl
  clean := .inr (.inr rfl)
  finiteTmo := .inr rfl
theorem test_clean_needs_reset_registers : ¬ { State.reset with err := .length : State }.atReset ∧
    ¬ { State.reset with rx := ⟨1, some 0, none, none, none⟩ : State }.atReset := by decide

/-- V54: DISCOVER started, on a chain that sends one ANNOUNCE after another without end. -/
def endless : State :=
  { State.reset with
    inputs := [.write 0x00#8 0x80#8, .seq]
    forever := [.arrive [0xFE, 0x01, 0x03, 0xFC], .seq] }

theorem test_witness_endless : endless.busy = false ∧ endless.rxQueue = [] ∧ (0xFE#8 : Byte) ≠ 255 ∧
    (0xFC#8 : Byte) = 0xFE ^^^ 0x01 ^^^ 0x03 ∧ (0x00#8 : Byte) ≠ 254 := by decide
theorem test_forever_comes_again : { endless with inputs := [] : State }.nextInput = some (.arrive [0xFE, 0x01, 0x03, 0xFC]) ∧
    { endless with inputs := [] : State }.consumed.forever = [.seq, .arrive [0xFE, 0x01, 0x03, 0xFC]] := by decide
theorem test_witness_moves : (host .seq).inputs = .seq :: [] ∧ { endless with inputs := [] : State }.inputs = [] ∧
    endless.forever = .arrive [0xFE, 0x01, 0x03, 0xFC] :: [.seq] ∧ endless.timerDue = false ∧ State.reset.inputs = [] ∧
    State.reset.forever = [] ∧ State.reset.timerDue = false ∧ { polled .set [] with waited := 2 : State }.timerDue = true := by decide

end Sys2Proof.Tests
end

section
/-! PROOFS. The statements of 10_state.md: the register invariant, the streams, the exits of each busy state, who writes
ERR and RESULT, the host's register interface, what can stop the machine, what a move reads, START and reset. -/

namespace Sys2Proof.Machine

/-! ### The invariant and the fields it does not see -/

/-- The invariant speaks of neither the host's registers, the streams, the queue nor the other agents. -/
theorem State.Inv.of_sameBlock {s t : State} (h : s.Inv)
    (ht : t = { s with
      ctrl := t.ctrl, addr := t.addr, arg := t.arg, reports := t.reports, echoes := t.echoes
      rxQueue := t.rxQueue, inputs := t.inputs, forever := t.forever, waited := t.waited
      hostReads := t.hostReads, draws := t.draws }) : t.Inv := by
  rw [ht]
  exact { h with }

/-- `RXN` = 0 agrees with four unwritten receive registers (R27). -/
theorem RxRegs.cleared_sound : RxRegs.cleared.Sound := by
  constructor <;> decide

/-- Settles O41: at reset nothing is written, nothing was sent and nothing was read. -/
theorem resetMeetsInvariant : Obligations.ResetMeetsInvariant := by
  constructor
  case rxSound => exact RxRegs.cleared_sound
  all_goals decide

/-- A host reset meets the invariant from any state (R111). -/
theorem State.Inv.resetBy (s : State) : s.resetBy.Inv :=
  State.Inv.of_sameBlock resetMeetsInvariant rfl

/-! ### What the invariant says while a read is in progress -/

/-- A read is in progress exactly in AWAITING and LISTENING (R80, R92). -/
theorem SeqState.reading_iff {q : SeqState} : q.reading = true ↔ q = .awaiting ∨ q = .listening := by
  cases q <;> decide

/-- While a read is in progress ST is none of the states in which none is. -/
theorem SeqState.ne_of_reading {q p : SeqState} (hq : q.reading = true) (hp : p.reading = false) : q ≠ p := by
  rintro rfl
  rw [hq] at hp
  cases hp

/-- Outside FAILED there is no error (R23). -/
theorem State.Inv.err_none {s : State} (h : s.Inv) (hs : s.st ≠ .failed) : s.err = .none :=
  h.errOnlyFailed.2 hs

/-- Outside SUCCESS RESULT is unwritten (R25). -/
theorem State.Inv.result_none {s : State} (h : s.Inv) (hs : s.st ≠ .success) : s.result = none := by
  cases hr : s.result with
  | none => rfl
  | some v => exact absurd (h.resultPortRead.1 (by rw [hr]; rfl)).1 hs

/-! ### START and the send step keep it -/

/-- DISCOVER always latches a finite timeout (R30, R91). -/
theorem effectiveTimeout_discover_finite (tmoen : Bool) : (effectiveTimeout tmoen .discover).finite = true := by
  cases tmoen <;> rfl

/-- START clears every register the invariant speaks of (R31). -/
theorem State.Inv.startOp {s : State} (h : s.Inv) (op : Op) : (s.startOp op).Inv where
  errOnlyFailed := by simp
  awaitingSingleShot := by simp
  listeningDiscover := by simp
  discoverFinite _ hop := by
    cases (hop : op = .discover)
    exact effectiveTimeout_discover_finite _
  rxSound := RxRegs.cleared_sound
  unwrittenBeforeSend := by simp
  txIsRequest := by simp
  resultPortRead := by simp
  resultIsData := by simp
  successCode := by simp
  lengthRecord := by simp
  checksumRecord := by simp
  commandRecord := by simp
  txlogValid := h.txlogValid
  rxlogShort := h.rxlogShort

/-- The frame the latches build is one of the table's requests with its checksum (R53, R59). -/
theorem Latch.request_valid (l : Latch) :
    l.request.b3 = l.request.b0 ^^^ l.request.b1 ^^^ l.request.b2 ∧
      l.request.b0 ∈ [0x01#8, 0x02#8, 0x03#8, 0x06#8, 0x07#8, 0x08#8] := by
  refine ⟨rfl, ?_⟩
  change l.op.command ∈ _
  cases l.op <;> decide

/-- The send step leads DISCOVER to LISTENING and every other operation to AWAITING (R79, R90). -/
theorem Op.afterSend_eq (op : Op) : op.afterSend = if op = .discover then .listening else .awaiting := by
  cases op <;> rfl

/-- After the send step a read is in progress (R80, R92). -/
theorem Op.afterSend_reading (op : Op) : op.afterSend.reading = true := by
  cases op <;> rfl

/-- Only DISCOVER listens (R90). -/
theorem Op.discover_of_afterSend_listening {op : Op} (h : op.afterSend = .listening) : op = .discover := by
  cases op <;> cases h
  rfl

/-- Only the single-shot operations await (R79). -/
theorem Op.ne_discover_of_afterSend_awaiting {op : Op} (h : op.afterSend = .awaiting) : op ≠ .discover := by
  rintro rfl
  cases h

/-- The send step keeps the invariant (R28, R79, R90). -/
theorem State.Inv.send {s : State} (h : s.Inv) (hs : s.st = .sending) : s.send.Inv := by
  have herr := h.err_none (by rw [hs]; decide)
  have hresult := h.result_none (by rw [hs]; decide)
  have hreading := s.latch.op.afterSend_reading
  rw [State.send_eq]
  exact { h with
    errOnlyFailed := iff_of_true herr (SeqState.ne_of_reading hreading rfl)
    awaitingSingleShot := Op.ne_discover_of_afterSend_awaiting
    listeningDiscover := Op.discover_of_afterSend_listening
    discoverFinite := fun _ => h.discoverFinite (by rw [hs]; decide)
    unwrittenBeforeSend := fun h' =>
      (h'.elim (SeqState.ne_of_reading hreading rfl) (SeqState.ne_of_reading hreading rfl)).elim
    txIsRequest := fun _ _ => rfl
    resultPortRead := iff_of_false (by simp [hresult]) fun h' => SeqState.ne_of_reading hreading rfl h'.1
    successCode := fun _ h' => (SeqState.ne_of_reading hreading rfl h').elim
    txlogValid := by
      intro f hf
      rcases List.mem_append.1 hf with hf | hf
      · exact h.txlogValid f hf
      · rw [List.mem_singleton.1 hf]
        exact s.latch.request_valid }

/-! ### A read keeps it, step by step: the record, then the way the operation goes on -/

/-- The record of a read of up to four bytes agrees with its count (R27, R40). -/
theorem rxRegsOf_sound {r : List Byte} (hr : r.length ≤ 4) : (rxRegsOf r).Sound := by
  have hn : (rxRegsOf r).rxn.toNat = r.length := by
    simp only [rxRegsOf, BitVec.toNat_ofNat]
    omega
  constructor <;> rw [hn]
  · exact hr
  all_goals simp [rxRegsOf]

/-- Recording a read keeps the invariant while the read is in progress (R27, R32, R75). -/
theorem State.Inv.recordRead {s : State} (h : s.Inv) (hs : s.st.reading = true) {r : List Byte}
    (hr : r.length ≤ 4) (dbg : Bool) : ((s.rxRead r).decodeRsp dbg r).Inv := by
  have herr := h.err_none (SeqState.ne_of_reading hs rfl)
  have hresult := h.result_none (SeqState.ne_of_reading hs rfl)
  rw [State.decodeRsp_eq]
  exact { h with
    rxSound := rxRegsOf_sound hr
    unwrittenBeforeSend := fun h' => (h'.elim (SeqState.ne_of_reading hs rfl) (SeqState.ne_of_reading hs rfl)).elim
    resultIsData := by simp [hresult]
    successCode := fun _ h' => (SeqState.ne_of_reading hs rfl h').elim
    lengthRecord := by simp [herr]
    checksumRecord := by simp [herr]
    commandRecord := by simp [herr]
    rxlogShort := by
      intro x hx
      rcases List.mem_append.1 hx with hx | hx
      · exact h.rxlogShort x hx
      · rw [List.mem_singleton.1 hx]
        exact hr }

/-- The failure entry keeps the invariant when the error's cause is recorded (R99, R101). -/
theorem State.Inv.raise {s : State} (h : s.Inv) (hs : s.st.reading = true) {e : ErrKind}
    (he : e ≠ .none) (hlength : e = .length → s.rx.rxn.toNat ≤ 3) (hchecksum : e = .checksum → s.rx.rxn = 4#3)
    (hcommand : e = .commandFailed → s.rsp.rcode.isSome = true) : (s.raise e).Inv := by
  have hresult := h.result_none (SeqState.ne_of_reading hs rfl)
  exact { h with
    errOnlyFailed := by simp [he]
    awaitingSingleShot := by simp
    listeningDiscover := by simp
    discoverFinite := fun _ => h.discoverFinite (SeqState.ne_of_reading hs rfl)
    unwrittenBeforeSend := by simp
    txIsRequest := fun _ _ => h.txIsRequest (SeqState.ne_of_reading hs rfl) (SeqState.ne_of_reading hs rfl)
    resultPortRead := by simp [hresult]
    successCode := by simp
    lengthRecord := hlength
    checksumRecord := hchecksum
    commandRecord := hcommand }

/-- Success of a single-shot operation keeps the invariant when the accepted frame is recorded (R81, R86). -/
theorem State.Inv.succeed {s : State} (h : s.Inv) (hs : s.st = .awaiting) {p : Response}
    (hrsp : s.rsp = ⟨some p.code, some p.addr, some p.data⟩) (hcode : p.code = s.latch.op.expect) :
    (s.succeed p).Inv := by
  have herr := h.err_none (by rw [hs]; decide)
  have hresult := h.result_none (by rw [hs]; decide)
  rw [State.succeed_eq]
  exact { h with
    errOnlyFailed := iff_of_true herr (by simp)
    awaitingSingleShot := by simp
    listeningDiscover := by simp
    discoverFinite := fun _ => h.discoverFinite (by rw [hs]; decide)
    unwrittenBeforeSend := by simp
    txIsRequest := fun _ _ => h.txIsRequest (by rw [hs]; decide) (by rw [hs]; decide)
    resultPortRead := by by_cases hop : s.latch.op = .portRead <;> simp [hop, hresult]
    resultIsData := by by_cases hop : s.latch.op = .portRead <;> simp [hop, hresult, hrsp]
    successCode := by simp [hrsp, hcode]
    lengthRecord := by simp [herr]
    checksumRecord := by simp [herr]
    commandRecord := by simp [herr] }

/-- The end of DISCOVER in SUCCESS keeps the invariant (R93). -/
theorem State.Inv.endDiscovery {s : State} (h : s.Inv) (hs : s.st = .listening) : (s.enter .success).Inv := by
  have herr := h.err_none (by rw [hs]; decide)
  have hresult := h.result_none (by rw [hs]; decide)
  have hop := h.listeningDiscover hs
  exact { h with
    errOnlyFailed := iff_of_true herr (by simp)
    awaitingSingleShot := by simp
    listeningDiscover := by simp
    discoverFinite := fun _ => h.discoverFinite (by rw [hs]; decide)
    unwrittenBeforeSend := by simp
    txIsRequest := fun _ _ => h.txIsRequest (by rw [hs]; decide) (by rw [hs]; decide)
    resultPortRead := by simp [hresult, hop]
    successCode := by simp [hop] }

/-- Entering the state one is in changes nothing. -/
theorem State.enter_self {s : State} {q : SeqState} (hs : s.st = q) : s.enter q = s := by
  subst hs
  rfl

/-- What DECODE's error says of the read's length (R71, R99). -/
theorem validate_error_kind {r : List Byte} {e : CodecError} (h : validate r = .error e) :
    (e.kind = .length ∧ r.length ≠ 4) ∨ (e.kind = .checksum ∧ r.length = 4) := by
  rcases validate_cases r with ⟨hr, hv⟩ | ⟨b0, b1, b2, b3, rfl, -, hv⟩ | ⟨b0, b1, b2, rfl, hv⟩
  · rw [hv] at h
    cases h
    exact .inl ⟨rfl, hr⟩
  · rw [hv] at h
    cases h
    exact .inr ⟨rfl, rfl⟩
  · rw [hv] at h
    cases h

/-- A read whose DECODE fails ends in FAILED with the invariant kept (R74, R80, R94). -/
theorem State.Inv.failRead {s : State} (h : s.Inv) (hs : s.st.reading = true) {r : List Byte}
    (hr : r.length ≤ 4) {e : CodecError} (he : validate r = .error e) (dbg : Bool) :
    (((s.rxRead r).decodeRsp dbg r).raise e.kind).Inv := by
  have hrecord := h.recordRead hs hr dbg
  rcases validate_error_kind he with ⟨hk, hlen⟩ | ⟨hk, hlen⟩
  · refine hrecord.raise (by simpa using hs) ?_ ?_ ?_ ?_ <;> rw [hk] <;> simp [rxRegsOf]
    omega
  · refine hrecord.raise (by simpa using hs) ?_ ?_ ?_ ?_ <;> rw [hk] <;> simp [rxRegsOf, hlen]

/-- A read of a valid frame with a refused code ends in FAILED with the invariant kept (R81, R96). -/
theorem State.Inv.failCommand {s : State} (h : s.Inv) (hs : s.st.reading = true) {r : List Byte}
    (hr : r.length ≤ 4) {p : Response} (hp : validate r = .ok p) (dbg : Bool) :
    (((s.rxRead r).decodeRsp dbg r).raise .commandFailed).Inv :=
  (h.recordRead hs hr dbg).raise (by simpa using hs) (by decide) nofun nofun
    (fun _ => by rw [State.decodeRsp_rsp_ok hp]; rfl)

/-- The receive step keeps the invariant (R80, R81). -/
theorem State.Inv.await {s : State} (h : s.Inv) (hs : s.st = .awaiting) {r : List Byte} (hr : r.length ≤ 4) :
    (s.await r).Inv := by
  have hreading : s.st.reading = true := congrArg SeqState.reading hs
  rcases State.await_cases r s with ⟨e, he, heq⟩ | ⟨p, hp, hcode, heq⟩ | ⟨p, hp, -, heq⟩ <;> rw [heq]
  · exact h.failRead hreading hr he _
  · exact (h.recordRead hreading hr _).succeed (by simpa using hs) (State.decodeRsp_rsp_ok hp) (by simpa using hcode)
  · exact h.failCommand hreading hr hp _

/-- The listen step keeps the invariant (R92 to R97). -/
theorem State.Inv.listen {s : State} (h : s.Inv) (hs : s.st = .listening) {r : List Byte} (hr : r.length ≤ 4) :
    (s.listen r).Inv := by
  have hreading : s.st.reading = true := congrArg SeqState.reading hs
  have hrecord := h.recordRead hreading hr s.latch.dbg
  have hstill : ((s.rxRead r).decodeRsp s.latch.dbg r).st = .listening := by simpa using hs
  rcases State.listen_cases r s with ⟨n, -, heq⟩ | ⟨f, hf, heq⟩ | ⟨p, -, -, heq⟩ | ⟨p, hp, -, heq⟩ | ⟨p, -, -, -, heq⟩ <;>
    rw [heq]
  · exact hrecord.endDiscovery hstill
  · exact h.failRead hreading hr hf _
  · rw [State.enter_self (by simpa using hs)]
    exact hrecord.of_sameBlock rfl
  · exact h.failCommand hreading hr hp _
  · rw [State.enter_self hstill]
    exact hrecord

/-! ### What a step does to the block -/

/-- `s` with its move taken and the bytes of its read taken from the queue: where the receive and listen steps begin. -/
abbrev State.readTaken (s : State) : State := { s.consumed with rxQueue := s.rxQueue.drop 4, waited := 0 }

/-- What a step that goes on does to the block: it keeps everything but the host's registers, or it is a START, a send, a
read or a reset. -/
inductive BlockStep (s t : State) : Prop where
  | kept (ht : t = { s with
      ctrl := t.ctrl, addr := t.addr, arg := t.arg, rxQueue := t.rxQueue, inputs := t.inputs
      forever := t.forever, waited := t.waited, hostReads := t.hostReads, draws := t.draws })
  | start (op : Op) (tmoen dbg : Bool) (ht : t = (s.consumed.writeCtrl op.code dbg tmoen).startOp op)
      (hbusy : s.busy = false)
  | send (hs : s.st = .sending) (ht : t = ({ s.consumed with waited := 0 } : State).send)
      (hi : s.nextInput = some .seq ∨ s.nextInput = none)
  | await (hs : s.st = .awaiting) (ht : t = s.readTaken.await (s.rxQueue.take 4))
  | listen (hs : s.st = .listening) (ht : t = s.readTaken.listen (s.rxQueue.take 4))
  | reset (ht : t = s.consumed.resetBy) (hi : s.nextInput = some .reset)

/-- `step_cases` with the steps that leave the block's own state alone in one case. -/
theorem step_block {s t : State} (h : step s = .next t) : BlockStep s t := by
  cases step_cases h with
  | wait ht => exact .kept (by rw [ht]; rfl)
  | start op v tmoen dbg ht hbusy => exact .start op tmoen dbg ht hbusy
  | send hs ht hi => exact .send hs ht hi
  | await hs ht => exact .await hs ht
  | listen hs ht => exact .listen hs ht
  | read i v ht => exact .kept (by rw [ht]; rfl)
  | write i v c a g ht => exact .kept (by rw [ht]; rfl)
  | reset ht hi => exact .reset ht hi
  | arrive bs ht => exact .kept (by rw [ht]; rfl)
  | arriveAny ht => exact .kept (by rw [ht]; rfl)

/-- Settles O42: the kinds of step, each by the lemma that says its operation keeps the invariant. -/
theorem stepKeepsInvariant : Obligations.StepKeepsInvariant := by
  intro s t h hstep
  have htaken : s.readTaken.Inv := h.of_sameBlock rfl
  cases step_block hstep with
  | kept ht => exact h.of_sameBlock (by rw [ht])
  | start op tmoen dbg ht =>
    rw [ht]
    exact (h.of_sameBlock rfl).startOp op
  | send hs ht =>
    rw [ht]
    exact (h.of_sameBlock rfl).send hs
  | await hs ht => exact ht ▸ htaken.await hs (List.length_take_le 4 _)
  | listen hs ht => exact ht ▸ htaken.listen hs (List.length_take_le 4 _)
  | reset ht => exact ht ▸ State.Inv.resetBy _

/-! ### Streams and histories -/

/-- What DECODE echoes goes behind the echoes there are (R33, R73). -/
theorem State.decodeRsp_echoes_prefix (dbg : Bool) (r : List Byte) (s : State) :
    s.echoes <+: (s.decodeRsp dbg r).echoes := by
  rcases s.decodeRsp_echoes dbg r with h | ⟨b0, b1, b2, b3, -, -, h⟩ <;> rw [h]
  · exact List.prefix_append _ _

/-- `s` holds nothing in a stream or history that `t` does not hold first (R32, R33). -/
def State.StreamsGrow (s t : State) : Prop :=
  s.reports <+: t.reports ∧ s.echoes <+: t.echoes ∧ s.txlog <+: t.txlog ∧ s.rxlog <+: t.rxlog

/-- The record of a read only grows them. -/
theorem State.recordRead_streamsGrow (dbg : Bool) (r : List Byte) (s : State) :
    s.StreamsGrow ((s.rxRead r).decodeRsp dbg r) :=
  ⟨by simp, (s.rxRead r).decodeRsp_echoes_prefix dbg r, by simp, by simp⟩

/-- The receive step only grows them. -/
theorem State.await_streamsGrow (r : List Byte) (s : State) : s.StreamsGrow (s.await r) := by
  have hrecord := s.recordRead_streamsGrow s.latch.dbg r
  rcases State.await_cases r s with ⟨e, -, heq⟩ | ⟨p, -, -, heq⟩ | ⟨p, -, -, heq⟩ <;> rw [heq]
  · exact hrecord
  · rw [State.succeed_eq]
    exact hrecord
  · exact hrecord

/-- The listen step only grows them. -/
theorem State.listen_streamsGrow (r : List Byte) (s : State) : s.StreamsGrow (s.listen r) := by
  have hrecord := s.recordRead_streamsGrow s.latch.dbg r
  rcases State.listen_cases r s with ⟨n, -, heq⟩ | ⟨f, -, heq⟩ | ⟨p, -, -, heq⟩ | ⟨p, -, -, heq⟩ | ⟨p, -, -, -, heq⟩ <;>
    rw [heq]
  case inr.inr.inl => exact ⟨by simp, hrecord.2⟩
  all_goals exact hrecord

/-- Settles O46: only a send, a read and a report write them, each at the end. -/
theorem streamsOnlyGrow : Obligations.StreamsOnlyGrow := by
  intro s t hstep hreset
  show s.StreamsGrow t
  cases step_block hstep with
  | kept ht => rw [ht]; simp [State.StreamsGrow]
  | start op tmoen dbg ht => rw [ht]; simp [State.StreamsGrow]
  | send hs ht =>
    rw [ht, State.send_eq]
    refine ⟨List.prefix_rfl, ?_, List.prefix_append _ _, List.prefix_rfl⟩
    dsimp only
    split
    · exact List.prefix_append _ _
    · exact List.prefix_rfl
  | await hs ht => exact ht ▸ State.await_streamsGrow _ s.readTaken
  | listen hs ht => exact ht ▸ State.listen_streamsGrow _ s.readTaken
  | reset ht hi => exact absurd hi hreset

/-! ### The exits of the busy states -/

/-- Settles O48: of the steps possible in SENDING only the send step and a reset change ST. -/
theorem sendingHasOneExit : Obligations.SendingHasOneExit := by
  intro s t hs hstep hleft
  cases step_block hstep with
  | kept ht => exact absurd ((congrArg State.st ht).trans hs) hleft
  | start op tmoen dbg ht hbusy => simp [State.busy, hs, SeqState.busy] at hbusy
  | send _ ht hi =>
    rw [ht, State.send_eq]
    exact .inl ⟨hi, rfl, rfl, Op.afterSend_eq _⟩
  | await hs' ht => simp [hs] at hs'
  | listen hs' ht => simp [hs] at hs'
  | reset ht hi => exact .inr ⟨hi, ht ▸ rfl⟩

/-- What a read of up to four queued bytes gives: a short result, a checksum that fails, or a valid frame (R40, R71). -/
theorem validate_take_cases (q : List Byte) :
    (q.length < 4 ∧ validate (q.take 4) = .error (.length q.length)) ∨
    ∃ b0 b1 b2 b3 rest, q = b0 :: b1 :: b2 :: b3 :: rest ∧
      ((b3 ≠ b0 ^^^ b1 ^^^ b2 ∧ validate (q.take 4) = .error (.checksum ⟨b0, b1, b2, b3⟩)) ∨
       (b3 = b0 ^^^ b1 ^^^ b2 ∧ validate (q.take 4) = .ok ⟨b0, b1, b2⟩)) := by
  by_cases hshort : q.length < 4
  · rw [List.take_of_length_le (Nat.le_of_lt hshort)]
    exact .inl ⟨hshort, validate_short hshort⟩
  · match q, Nat.le_of_not_lt hshort with
    | b0 :: b1 :: b2 :: b3 :: rest, _ =>
      refine .inr ⟨b0, b1, b2, b3, rest, rfl, ?_⟩
      by_cases hk : b3 = b0 ^^^ b1 ^^^ b2
      · exact .inr ⟨hk, by rw [hk]; exact validate_valid b0 b1 b2⟩
      · exact .inl ⟨hk, validate_invalid hk⟩

/-- Success of a single-shot operation enters SUCCESS and leaves `ERR` (R81). -/
theorem State.succeed_st_err (p : Response) (s : State) : (s.succeed p).st = .success ∧ (s.succeed p).err = s.err := by
  rw [State.succeed_eq]
  exact ⟨rfl, rfl⟩

/-- Settles O49: by the read that AWAITING makes, the three errors and the accepted code each on its own cause. -/
theorem awaitingHasItsExits : Obligations.AwaitingHasItsExits := by
  intro s t hs hstep hleft
  cases step_block hstep with
  | kept ht => exact absurd ((congrArg State.st ht).trans hs) hleft
  | start op tmoen dbg ht hbusy => simp [State.busy, hs, SeqState.busy] at hbusy
  | send hs' ht hi => simp [hs] at hs'
  | await _ ht =>
    rw [State.await] at ht
    rcases validate_take_cases s.rxQueue with ⟨hq, hv⟩ | ⟨b0, b1, b2, b3, q, hq, ⟨hk, hv⟩ | ⟨hk, hv⟩⟩ <;> rw [hv] at ht
    · exact .inl ⟨hq, ht ▸ rfl, ht ▸ rfl⟩
    · exact .inr (.inl ⟨b0, b1, b2, b3, q, hq, .inl ⟨hk, ht ▸ rfl, ht ▸ rfl⟩⟩)
    · refine .inr (.inl ⟨b0, b1, b2, b3, q, hq, .inr ?_⟩)
      by_cases hcode : b0 = s.latch.op.expect
      · refine .inr ⟨hk, hcode, ?_⟩
        rw [ht]
        simp [hcode, State.succeed_st_err]
      · refine .inl ⟨hk, hcode, ?_⟩
        rw [ht]
        simp [hcode]
  | listen hs' ht => simp [hs] at hs'
  | reset ht hi => exact .inr (.inr ⟨hi, ht ▸ rfl⟩)

/-- Settles O50: by the read that LISTENING makes, whose other results listen on. -/
theorem listeningHasThreeExits : Obligations.ListeningHasThreeExits := by
  intro s t hs hstep hleft
  cases step_block hstep with
  | kept ht => exact absurd ((congrArg State.st ht).trans hs) hleft
  | start op tmoen dbg ht hbusy => simp [State.busy, hs, SeqState.busy] at hbusy
  | send hs' ht hi => simp [hs] at hs'
  | await hs' ht => simp [hs] at hs'
  | listen _ ht =>
    rw [State.listen] at ht
    rcases validate_take_cases s.rxQueue with ⟨hq, hv⟩ | ⟨b0, b1, b2, b3, q, hq, ⟨hk, hv⟩ | ⟨hk, hv⟩⟩ <;> rw [hv] at ht
    · exact .inl ⟨hq, ht ▸ rfl, by rw [ht]; simp⟩
    · exact .inr (.inl ⟨b0, b1, b2, b3, q, hq, ht ▸ rfl, .inl ⟨hk, ht ▸ rfl⟩⟩)
    · refine .inr (.inl ⟨b0, b1, b2, b3, q, hq, ?_⟩)
      dsimp only at ht
      split_ifs at ht with hannounce herror
      · exact absurd (ht ▸ rfl) hleft
      · exact ⟨ht ▸ rfl, .inr ⟨hk, herror, ht ▸ rfl⟩⟩
      · exact absurd (ht ▸ rfl) hleft
  | reset ht hi => exact .inr (.inr ⟨hi, ht ▸ rfl⟩)

/-! ### Who writes ERR and RESULT -/

/-- The receive step leaves `ERR` or raises an error (R80, R81). -/
theorem State.await_err (r : List Byte) (s : State) :
    (s.await r).err = s.err ∨ ((s.await r).err ≠ .none ∧ (s.await r).st = .failed) := by
  rcases State.await_cases r s with ⟨e, -, heq⟩ | ⟨p, -, -, heq⟩ | ⟨p, -, -, heq⟩ <;> rw [heq]
  · exact .inr ⟨by cases e <;> simp [CodecError.kind], rfl⟩
  · exact .inl (by simp [State.succeed_st_err])
  · exact .inr ⟨by simp, rfl⟩

/-- The listen step leaves `ERR` or raises an error (R93 to R97). -/
theorem State.listen_err (r : List Byte) (s : State) :
    (s.listen r).err = s.err ∨ ((s.listen r).err ≠ .none ∧ (s.listen r).st = .failed) := by
  rcases State.listen_cases r s with ⟨n, -, heq⟩ | ⟨f, -, heq⟩ | ⟨p, -, -, heq⟩ | ⟨p, -, -, heq⟩ | ⟨p, -, -, -, heq⟩ <;>
    rw [heq]
  · exact .inl (by simp)
  · exact .inr ⟨by simp, rfl⟩
  · exact .inl (by simp)
  · exact .inr ⟨by simp, rfl⟩
  · exact .inl (by simp)

/-- Settles O51: a START writes NONE, a read that fails its error, a reset NONE, and no other step writes it. -/
theorem errIsWrittenByStartAndFailure : Obligations.ErrIsWrittenByStartAndFailure := by
  intro s t hstep
  cases step_block hstep with
  | kept ht => exact .inl (ht ▸ rfl)
  | start op tmoen dbg ht hbusy => exact .inr (.inl ⟨ht ▸ rfl, ht ▸ rfl, hbusy⟩)
  | send hs ht hi => exact .inl (ht ▸ rfl)
  | await hs ht =>
    rcases State.await_err (s.rxQueue.take 4) s.readTaken with h | ⟨h, h'⟩
    · exact .inl (ht ▸ h)
    · exact .inr (.inr (.inl ⟨ht ▸ h, ht ▸ h', .inl hs⟩))
  | listen hs ht =>
    rcases State.listen_err (s.rxQueue.take 4) s.readTaken with h | ⟨h, h'⟩
    · exact .inl (ht ▸ h)
    · exact .inr (.inr (.inl ⟨ht ▸ h, ht ▸ h', .inr hs⟩))
  | reset ht hi => exact .inr (.inr (.inr ⟨hi, ht ▸ rfl⟩))

/-- The receive step writes RESULT only as PORT_READ's success, with the response's data (R25, R86). -/
theorem State.await_result (r : List Byte) (s : State) :
    (s.await r).result = s.result ∨
    ((s.await r).st = .success ∧ s.latch.op = .portRead ∧
      ∃ v, (s.await r).result = some v ∧ (s.await r).rsp.rdata = some v ∧ (s.await r).rsp.rcode = some 253) := by
  rcases State.await_cases r s with ⟨e, -, heq⟩ | ⟨p, hp, hcode, heq⟩ | ⟨p, -, -, heq⟩ <;> rw [heq]
  · exact .inl (by simp)
  · rw [State.succeed_eq, State.decodeRsp_latch, State.rxRead_latch]
    by_cases hop : s.latch.op = .portRead
    · refine .inr ⟨rfl, hop, p.data, if_pos hop, ?_⟩
      rw [State.decodeRsp_rsp_ok hp, hcode, hop]
      exact ⟨rfl, rfl⟩
    · exact .inl (by simp [hop])
  · exact .inl (by simp)

/-- The listen step leaves RESULT (R25). -/
theorem State.listen_result (r : List Byte) (s : State) : (s.listen r).result = s.result := by
  rcases State.listen_cases r s with ⟨n, -, heq⟩ | ⟨f, -, heq⟩ | ⟨p, -, -, heq⟩ | ⟨p, -, -, heq⟩ | ⟨p, -, -, -, heq⟩ <;>
    rw [heq] <;> simp

/-- Settles O52: a START and a reset make it unwritten, PORT_READ's success writes it, and no other step does. -/
theorem resultIsWrittenByPortReadAlone : Obligations.ResultIsWrittenByPortReadAlone := by
  intro s t hstep hchanged
  cases step_block hstep with
  | kept ht => exact absurd (congrArg State.result ht) hchanged
  | start op tmoen dbg ht hbusy => exact .inl ⟨ht ▸ rfl, .inl (ht ▸ rfl)⟩
  | send hs ht hi => exact absurd (congrArg State.result ht) hchanged
  | await hs ht =>
    rcases State.await_result (s.rxQueue.take 4) s.readTaken with h | h
    · exact absurd (ht ▸ h) hchanged
    · rw [ht]
      exact .inr ⟨hs, h⟩
  | listen hs ht => exact absurd (ht ▸ State.listen_result _ _) hchanged
  | reset ht hi => exact .inl ⟨ht ▸ rfl, .inr (ht ▸ rfl)⟩

/-! ### The host's register writes -/

/-- A CTRL byte with START = 1 decodes to the start command of its OP, or its OP is reserved (R55, R62, R63). -/
theorem decodeHost_of_start {v : Byte} (hv : v.getLsbD 7 = true) :
    (∃ i op, decodeHost v = .ok i ∧ classOf i = .start op (v.getLsbD 4) (v.getLsbD 3) ∧ op.code = v.extractLsb' 0 3) ∨
    (decodeHost v = .error (.reservedOp (v.extractLsb' 0 3)) ∧ 6 ≤ (v.extractLsb' 0 3).toNat) := by
  unfold decodeHost
  simp only [hv, Bool.true_eq_false, if_false]
  split_ifs with h0 h1 h2 h3 h4 h5
  · exact .inl ⟨_, .discover, rfl, rfl, h0.symm⟩
  · exact .inl ⟨_, .set, rfl, rfl, h1.symm⟩
  · exact .inl ⟨_, .clear, rfl, rfl, h2.symm⟩
  · exact .inl ⟨_, .toggle, rfl, rfl, h3.symm⟩
  · exact .inl ⟨_, .portRead, rfl, rfl, h4.symm⟩
  · exact .inl ⟨_, .portWrite, rfl, rfl, h5.symm⟩
  · exact .inr ⟨rfl, by bv_omega⟩

/-- A CTRL write with START = 1 runs START on its OP's operation, or is refused for a reserved OP (R31, R63). -/
theorem step_of_startWrite {s : State} {v : Byte} (hi : s.nextInput = some (.write 0 v)) (hv : v.getLsbD 7 = true) :
    (∃ op : Op, op.code = v.extractLsb' 0 3 ∧ step s = hostStart op (v.getLsbD 4) (v.getLsbD 3) s.consumed) ∨
    (step s = .refused (.reservedOp (v.extractLsb' 0 3)) ∧ 6 ≤ (v.extractLsb' 0 3).toNat) := by
  have hstep : step s = (writeMove 0 v s.consumed).outcome := step_of_input hi
  rw [writeMove, if_pos ⟨rfl, hv⟩] at hstep
  rcases decodeHost_of_start hv with ⟨i, op, hd, hc, hop⟩ | ⟨hd, hop⟩ <;> rw [hd] at hstep
  · refine .inl ⟨op, hop, hstep.trans ?_⟩
    rw [Move.outcome, exec_classOf, hc]
  · exact .inr ⟨hstep, hop⟩

/-- Any other host write is a plain one (R17 to R20). -/
theorem step_of_plainWrite {s : State} {i v : Byte} (hi : s.nextInput = some (.write i v))
    (hv : i = 0 → v.getLsbD 7 = false) : step s = hostWrite i v s.consumed := by
  have hstep : step s = (writeMove i v s.consumed).outcome := step_of_input hi
  rw [hstep, writeMove, if_neg]
  · rfl
  · rintro ⟨h0, h7⟩
    rw [hv h0] at h7
    cases h7

/-- A host read runs the register interface's read (R17). -/
theorem step_of_read {s : State} {i : Byte} (hi : s.nextInput = some (.read i)) : step s = hostRead i s.consumed :=
  step_of_input hi

/-- Past the three writable registers a write is ignored up to index 16 and refused after it (R17). -/
theorem hostWrite_past_arg {i v : Byte} {s : State} (hi : 3 ≤ i.toNat) :
    hostWrite i v s = if i.toNat ≤ 16 then .next s else .refused (.reservedIndex i) := by
  unfold hostWrite
  rw [if_neg, if_neg, if_neg] <;> rintro rfl <;> simp at hi

/-- A host write faults never and is refused only past index 16 (R17). -/
theorem hostWrite_answers (i v : Byte) (s : State) :
    (∃ t, hostWrite i v s = .next t) ∨ (16 < i.toNat ∧ hostWrite i v s = .refused (.reservedIndex i)) := by
  unfold hostWrite
  split_ifs with h0 h1 h2 h3
  · exact .inl ⟨_, rfl⟩
  · exact .inl ⟨_, rfl⟩
  · exact .inl ⟨_, rfl⟩
  · exact .inl ⟨_, rfl⟩
  · exact .inr ⟨Nat.lt_of_not_le h3, rfl⟩

/-- Settles O5: each index by the branch of the register interface's write that takes it. -/
theorem hostWriteReachesOnlyItsRegister : Obligations.HostWriteReachesOnlyItsRegister := by
  intro s i v hi
  refine ⟨?_, ?_, ?_, ?_, ?_⟩
  · rintro rfl hv
    rw [step_of_plainWrite hi (fun _ => hv)]
    rfl
  · rintro rfl
    rw [step_of_plainWrite hi nofun]
    rfl
  · rintro rfl
    rw [step_of_plainWrite hi nofun]
    rfl
  · intro h3 h16
    rw [step_of_plainWrite hi (by rintro rfl; simp at h3), hostWrite_past_arg h3, if_pos h16]
  · intro h16
    rw [step_of_plainWrite hi (by rintro rfl; simp at h16), hostWrite_past_arg (by omega), if_neg (by omega)]

/-- CTRL's fields from a written byte read back as its bits 4:0 (R18). -/
theorem ctrlByte_of_fields {s : State} {v : Byte}
    (h : s.ctrl = ⟨v.extractLsb' 0 3, v.getLsbD 3, v.getLsbD 4⟩) : s.ctrlByte = v &&& 0x1F#8 := by
  have hbits : ∀ v : Byte, 0#1 ++ 0#2 ++ BitVec.ofBool (v.getLsbD 4) ++ BitVec.ofBool (v.getLsbD 3) ++
      v.extractLsb' 0 3 = v &&& 0x1F#8 := by decide
  rw [State.ctrlByte, h]
  exact hbits v

/-- Settles O6: a START and a plain write both put the same three fields of the byte in CTRL. -/
theorem ctrlReadsBackItsLowFiveBits : Obligations.CtrlReadsBackItsLowFiveBits := by
  intro s t v hi hstep
  cases hv : v.getLsbD 7 with
  | true =>
    rcases step_of_startWrite hi hv with ⟨op, hop, heq⟩ | ⟨heq, -⟩
    · obtain ⟨-, rfl⟩ := hostStart_next.1 (heq.symm.trans hstep)
      exact ⟨ctrlByte_of_fields (by simp [hop]), rfl, rfl⟩
    · rw [heq] at hstep
      cases hstep
  | false =>
    rw [step_of_plainWrite hi (fun _ => hv)] at hstep
    cases hstep
    exact ⟨ctrlByte_of_fields rfl, rfl, rfl⟩

/-! ### The host's register reads and STATUS -/

/-- Settles O4: each index by the register map's lemma for it. -/
theorem hostReadGivesTheRegister : Obligations.HostReadGivesTheRegister := by
  intro s i hi
  dsimp only
  rw [step_of_read hi]
  refine ⟨?_, ?_, ?_, ?_, ?_, ?_, ?_, ?_, ?_, ?_, ?_, ?_, ?_, ?_, ?_, ?_, ?_,
    fun h => hostRead_of_reserved (State.reg_reserved _ h)⟩ <;> rintro rfl
  · exact hostRead_of_value (State.reg_ctrl _)
  · exact hostRead_of_value (State.reg_addr _)
  · exact hostRead_of_value (State.reg_arg _)
  · exact hostRead_of_value (State.reg_status _)
  · exact hostRead_of_option (State.reg_result _)
  · exact hostRead_of_option (State.reg_rcode _)
  · exact hostRead_of_option (State.reg_raddr _)
  · exact hostRead_of_option (State.reg_rdata _)
  · exact hostRead_of_value (State.reg_rxn _)
  · exact hostRead_of_option (State.reg_rxb0 _)
  · exact hostRead_of_option (State.reg_rxb1 _)
  · exact hostRead_of_option (State.reg_rxb2 _)
  · exact hostRead_of_option (State.reg_rxb3 _)
  · exact hostRead_of_option (State.reg_txb0 _)
  · exact hostRead_of_option (State.reg_txb1 _)
  · exact hostRead_of_option (State.reg_txb2 _)
  · exact hostRead_of_option (State.reg_txb3 _)

/-- Settles O3: STATUS is made of ST and ERR alone, so each of their values is looked at. -/
theorem statusBitsFollowStateAndError : Obligations.StatusBitsFollowStateAndError := by
  intro s
  unfold State.statusByte State.done State.busy
  generalize s.st = st, s.err = err
  cases st <;> cases err <;> decide

/-! ### What can stop the machine -/

/-- A read in progress returns to a next state (R80, R92). -/
theorem deliver_answers {s : State} (hs : s.st.reading = true) : ∃ t, (deliver s).outcome = .next t := by
  rw [deliver_outcome]
  rcases SeqState.reading_iff.1 hs with h | h
  · exact ⟨_, receiveStep_next.2 (.inl ⟨h, rfl⟩)⟩
  · exact ⟨_, receiveStep_next.2 (.inr ⟨h, rfl⟩)⟩

/-- SEQ's own move takes a next state (R16). -/
theorem seqMove_answers (s : State) : ∃ t, (seqMove s).outcome = .next t := by
  rcases seqMove_outcome s with ⟨h, -⟩ | ⟨-, h⟩ | ⟨hs, h⟩
  · exact ⟨_, h⟩
  · exact ⟨_, h⟩
  · exact h ▸ deliver_answers hs

/-- Every move but a host's register access takes a next state (R17, R29). -/
theorem step_answers {s : State} (hread : ∀ i, s.nextInput ≠ some (.read i))
    (hwrite : ∀ i v, s.nextInput ≠ some (.write i v)) : ∃ t, step s = .next t := by
  cases hi : s.nextInput with
  | none => exact step_of_noInput hi ▸ seqMove_answers s
  | some x =>
    rw [step_of_input hi]
    cases x with
    | write i v => exact absurd hi (hwrite i v)
    | read i => exact absurd hi (hread i)
    | reset => exact ⟨_, rfl⟩
    | arrive bs => exact ⟨_, rfl⟩
    | arriveAny => exact ⟨_, rfl⟩
    | expire =>
      rw [inputMove]
      split
      · next h => exact deliver_answers (Bool.and_eq_true_iff.1 h).1
      · exact ⟨_, rfl⟩
    | disconnect =>
      rw [inputMove]
      split
      · next h => exact deliver_answers h
      · exact ⟨_, rfl⟩
    | seq => exact seqMove_answers _

/-- A host read gives a value, faults on an unwritten register, or is refused past index 16 (R17, R29). -/
theorem hostRead_answers (i : Byte) (s : State) :
    (∃ t, hostRead i s = .next t) ∨ (s.reg i = .unwritten ∧ hostRead i s = .fault (.unwrittenRead i)) ∨
    (16 < i.toNat ∧ hostRead i s = .refused (.reservedIndex i)) := by
  unfold hostRead
  cases h : s.reg i with
  | value v => exact .inl ⟨_, rfl⟩
  | unwritten => exact .inr (.inl ⟨rfl, rfl⟩)
  | reserved => exact .inr (.inr ⟨Nat.lt_of_not_le fun hle => State.reg_not_reserved s hle h, rfl⟩)

/-- A host write goes on, or is refused for a reserved index, a reserved OP or a START while BUSY (R17, R63, R113). -/
theorem step_write_answers {s : State} {i v : Byte} (hi : s.nextInput = some (.write i v)) :
    (∃ t, step s = .next t) ∨ (16 < i.toNat ∧ step s = .refused (.reservedIndex i)) ∨
    (i = 0 ∧ v.getLsbD 7 = true ∧ 6 ≤ (v.extractLsb' 0 3).toNat ∧
      step s = .refused (.reservedOp (v.extractLsb' 0 3))) ∨
    (i = 0 ∧ v.getLsbD 7 = true ∧ s.busy = true ∧ step s = .refused .startWhileBusy) := by
  by_cases hstart : i = 0 ∧ v.getLsbD 7 = true
  · obtain ⟨rfl, hv⟩ := hstart
    rcases step_of_startWrite hi hv with ⟨op, -, heq⟩ | ⟨heq, hop⟩
    · cases hbusy : s.busy with
      | true => exact .inr (.inr (.inr ⟨rfl, hv, rfl, heq.trans (if_pos hbusy)⟩))
      | false => exact .inl ⟨_, heq.trans (hostStart_next.2 ⟨hbusy, rfl⟩)⟩
    · exact .inr (.inr (.inl ⟨rfl, hv, hop, heq⟩))
  · rw [step_of_plainWrite hi (by simpa using hstart)]
    rcases hostWrite_answers i v s.consumed with h | h
    · exact .inl h
    · exact .inr (.inl h)

/-- Settles O43: a move that is no register access goes on, and a read and a write stop only as the two lemmas say. -/
theorem onlyHostAccessesStop : Obligations.OnlyHostAccessesStop := by
  intro s
  by_cases hread : ∃ i, s.nextInput = some (.read i)
  · obtain ⟨i, hi⟩ := hread
    rw [step_of_read hi]
    rcases hostRead_answers i s.consumed with ⟨t, h⟩ | ⟨hreg, h⟩ | ⟨h16, h⟩ <;> rw [h]
    · exact ⟨nofun, nofun⟩
    · refine ⟨?_, nofun⟩
      rintro _ ⟨⟩
      exact ⟨i, hi, hreg, rfl⟩
    · refine ⟨nofun, ?_⟩
      rintro _ ⟨⟩
      exact .inl ⟨i, hi, h16, rfl⟩
  by_cases hwrite : ∃ i v, s.nextInput = some (.write i v)
  · obtain ⟨i, v, hi⟩ := hwrite
    rcases step_write_answers hi with ⟨t, h⟩ | ⟨h16, h⟩ | ⟨rfl, hv, hop, h⟩ | ⟨rfl, hv, hbusy, h⟩ <;> rw [h]
    · exact ⟨nofun, nofun⟩
    all_goals
      refine ⟨nofun, ?_⟩
      rintro _ ⟨⟩
    · exact .inr (.inl ⟨i, v, hi, h16, rfl⟩)
    · exact .inr (.inr (.inl ⟨v, hi, hv, hop, rfl⟩))
    · exact .inr (.inr (.inr ⟨v, hi, hv, hbusy, rfl⟩))
  · obtain ⟨t, h⟩ := step_answers (fun i h => hread ⟨i, h⟩) (fun i v h => hwrite ⟨i, v, h⟩)
    rw [h]
    exact ⟨nofun, nofun⟩

/-! ### SEQ's move, by what it can be doing -/

/-- SEQ has no step to take, a request to send, or a read in progress (R22). -/
theorem SeqState.move_cases (q : SeqState) :
    (q = .idle ∨ q = .success ∨ q = .failed) ∨ q = .sending ∨ q.reading = true := by
  cases q <;> decide

/-- In SENDING SEQ sends the latched request (R79, R90). -/
theorem seqMove_of_sending {s : State} (hs : s.st = .sending) :
    (seqMove s).outcome = .next ({ s with waited := 0 } : State).send := by
  rcases seqMove_outcome s with ⟨-, h⟩ | ⟨-, h⟩ | ⟨h, -⟩
  · exact absurd hs h
  · exact h
  · exact absurd hs (SeqState.ne_of_reading h rfl)

/-- A read in progress returns once four bytes are queued (R40). -/
theorem seqMove_of_reading {s : State} (hs : s.st.reading = true) :
    (seqMove s).outcome = if 4 ≤ s.rxQueue.length then (deliver s).outcome else .next s := by
  unfold seqMove
  rcases SeqState.reading_iff.1 hs with h | h <;> rw [h] <;> exact apply_ite Move.outcome _ _ _

/-- With SEQ's turn, or no move listed, the step is SEQ's (R16; log 2). -/
theorem step_of_seqTurn {s : State} (hi : s.nextInput = some .seq ∨ s.nextInput = none) :
    step s = (seqMove s.consumed).outcome := by
  rcases hi with hi | hi
  · exact step_of_input hi
  · rw [step_of_noInput hi, State.consumed_of_none hi]

/-! ### No move of SEQ or of the environment sees the host's registers (R30, R52) -/

section
variable (c : Ctrl) (a g : Byte)

@[simp] theorem State.withHostRegs_st (s : State) : (s.withHostRegs c a g).st = s.st := rfl
@[simp] theorem State.withHostRegs_latch (s : State) : (s.withHostRegs c a g).latch = s.latch := rfl
@[simp] theorem State.withHostRegs_consumed (s : State) :
    (s.withHostRegs c a g).consumed = s.consumed.withHostRegs c a g := rfl

/-- The record of a read does not see them (R27, R71). -/
theorem State.recordRead_withHostRegs (dbg : Bool) (r : List Byte) (s : State) :
    ((s.withHostRegs c a g).rxRead r).decodeRsp dbg r = ((s.rxRead r).decodeRsp dbg r).withHostRegs c a g := by
  unfold State.decodeRsp State.echoRead
  split <;> split <;> rfl

/-- Success of a single-shot operation does not see them (R81). -/
theorem State.succeed_withHostRegs (p : Response) (s : State) :
    (s.withHostRegs c a g).succeed p = (s.succeed p).withHostRegs c a g := by
  rw [State.succeed_eq, State.succeed_eq]
  rfl

/-- The receive step does not see them (R80, R81). -/
theorem State.await_withHostRegs (r : List Byte) (s : State) :
    (s.withHostRegs c a g).await r = (s.await r).withHostRegs c a g := by
  unfold State.await
  simp only [State.withHostRegs_latch, State.recordRead_withHostRegs, State.succeed_withHostRegs]
  split
  · rfl
  · split <;> rfl

/-- The listen step does not see them (R92 to R97). -/
theorem State.listen_withHostRegs (r : List Byte) (s : State) :
    (s.withHostRegs c a g).listen r = (s.listen r).withHostRegs c a g := by
  unfold State.listen
  simp only [State.withHostRegs_latch, State.recordRead_withHostRegs]
  split
  · rfl
  · rfl
  · split
    · rfl
    · split <;> rfl

/-- A read's step does not see them. -/
theorem receiveStep_withHostRegs (r : List Byte) (s : State) :
    receiveStep r (s.withHostRegs c a g) = mapNext (State.withHostRegs c a g) (receiveStep r s) := by
  unfold receiveStep
  simp only [State.withHostRegs_st, State.await_withHostRegs, State.listen_withHostRegs]
  split <;> rfl

/-- A read in progress returns what it returns without them. -/
theorem deliver_withHostRegs (s : State) :
    (deliver (s.withHostRegs c a g)).outcome = mapNext (State.withHostRegs c a g) (deliver s).outcome := by
  rw [deliver_outcome, deliver_outcome]
  exact receiveStep_withHostRegs c a g (s.rxQueue.take 4) { s with rxQueue := s.rxQueue.drop 4, waited := 0 }

/-- A timer's end or a disconnect that ends a read, or finds none to end, does not see them (R40, R106). -/
theorem endRead_withHostRegs (ends : Bool) (s : State) :
    (if ends then deliver (s.withHostRegs c a g) else .done (.next (s.withHostRegs c a g))).outcome =
      mapNext (State.withHostRegs c a g) (if ends then deliver s else .done (.next s)).outcome := by
  cases ends
  · rfl
  · exact deliver_withHostRegs c a g s

/-- SEQ's move does not see them (R30). -/
theorem seqMove_withHostRegs (s : State) :
    (seqMove (s.withHostRegs c a g)).outcome = mapNext (State.withHostRegs c a g) (seqMove s).outcome := by
  rcases s.st.move_cases with hs | hs | hs
  · rw [seqMove_of_notBusy hs, seqMove_of_notBusy (s := s.withHostRegs c a g) hs]
    rfl
  · rw [seqMove_of_sending hs, seqMove_of_sending (s := s.withHostRegs c a g) hs]
    rfl
  · rw [seqMove_of_reading hs, seqMove_of_reading (s := s.withHostRegs c a g) hs]
    by_cases hq : 4 ≤ s.rxQueue.length
    · rw [if_pos hq, if_pos (by exact hq)]
      exact deliver_withHostRegs c a g s
    · rw [if_neg hq, if_neg (by exact hq)]
      rfl

end

/-- Settles O53: SEQ's and the environment's moves one by one, a read by what it returns. -/
theorem runningOperationIgnoresHostRegisters : Obligations.RunningOperationIgnoresHostRegisters := by
  intro s c a g hwrite hread hreset
  cases hi : s.nextInput with
  | none => rw [step_of_noInput hi, step_of_noInput (s := s.withHostRegs c a g) hi, seqMove_withHostRegs]
  | some x =>
    rw [step_of_input hi, step_of_input (s := s.withHostRegs c a g) hi, State.withHostRegs_consumed]
    cases x with
    | write i v => exact absurd hi (hwrite i v)
    | read i => exact absurd hi (hread i)
    | reset => exact absurd hi hreset
    | arrive bs => rfl
    | arriveAny => rfl
    | expire => exact endRead_withHostRegs c a g s.consumed.timerArmed s.consumed
    | disconnect => exact endRead_withHostRegs c a g s.consumed.st.reading s.consumed
    | seq => exact seqMove_withHostRegs c a g _

/-! ### Start commands -/

/-- A HOSTCMD row starts an operation (R55). -/
theorem classOf_hostCmd {i : Instr} (h : formatOf i = .hostCmd) : ∃ op tmoen dbg, classOf i = .start op tmoen dbg := by
  cases i <;> cases h <;> exact ⟨_, _, _, rfl⟩

/-- Settles O36: START writes CTRL, the latches and the per-call registers alone. -/
theorem hostCommandFrame : Obligations.HostCommandFrame := by
  intro i s t hformat hexec
  obtain ⟨op, tmoen, dbg, hclass⟩ := classOf_hostCmd hformat
  rw [exec_classOf, hclass] at hexec
  obtain ⟨-, rfl⟩ := hostStart_next.1 hexec
  simp

/-- START is accepted while no operation runs (R31). -/
theorem hostStart_of_notBusy {s : State} (hs : s.st = .idle ∨ s.st = .success ∨ s.st = .failed) (op : Op)
    (tmoen dbg : Bool) : hostStart op tmoen dbg s = .next ((s.writeCtrl op.code dbg tmoen).startOp op) :=
  hostStart_next.2 ⟨by rcases hs with h | h | h <;> simp [State.busy, h, SeqState.busy], rfl⟩

/-- Settles O20: each start command by the accepted START of its operation. -/
theorem acceptedStartLatchesAndClears : Obligations.AcceptedStartLatchesAndClears := by
  intro s r tmoen dbg hs
  refine ⟨?_, ?_, ?_, ?_, ?_, ?_⟩ <;> refine (hostStart_of_notBusy hs _ _ _).trans ?_ <;> cases tmoen <;> rfl

/-! ### What a step runs -/

/-- A byte that decodes as a start command has START = 1 (R55). -/
theorem start_of_decodeHost {v : Byte} {i : Instr} (h : decodeHost v = .ok i) : v.getLsbD 7 = true := by
  by_contra hv
  rw [decodeHost, if_pos (by simpa using hv)] at h
  cases h

/-- The frame a request's latches build decodes to its instruction (R53, R59). -/
theorem decode_request (l : Latch) : decode l.request.toList = .ok l.requestInstr := by
  obtain ⟨op, addr, arg, dbg, tmo⟩ := l
  cases op
  case discover =>
    have hframe : packFrame 0x01#8 0x01#8 0x00#8 = ⟨0x01#8, 0x01#8, 0x00#8, 0x00#8⟩ := by decide
    change decode (packFrame 0x01#8 0x01#8 0x00#8).toList = _
    rw [hframe]
    rfl
  all_goals rfl

/-- Only the REQ format's rows decode as requests (R53). -/
theorem formatOf_decodeReq {f : Frame} {i : Instr} (h : decodeReq f = .ok i) : formatOf i = .req := by
  unfold decodeReq at h
  split_ifs at h <;> cases h <;> rfl

/-- Decoding a response's bytes as a frame is decoding them as a response (R54, R60). -/
theorem decodeRsp_of_decode {b0 b1 b2 b3 : Byte} {i : Instr} (hd : decode [b0, b1, b2, b3] = .ok i)
    (hf : formatOf i = .rsp) : decodeRsp ⟨b0, b1, b2, b3⟩ = .ok i := by
  change decodeFrame _ = _ at hd
  unfold decodeFrame at hd
  split at hd
  · next h => exact h.trans hd
  · rw [formatOf_decodeReq hd] at hf
    cases hf

/-- With a frame queued every move that can end the read in progress reads that frame (R40, R106). -/
theorem step_of_queuedFrame {s : State} {b0 b1 b2 b3 : Byte} {q : List Byte}
    (hi : s.nextInput = some .seq ∨ s.nextInput = none ∨ (s.nextInput = some .expire ∧ s.latch.tmo ≠ .none) ∨
      s.nextInput = some .disconnect)
    (hs : s.st = .awaiting ∨ s.st = .listening) (hq : s.rxQueue = b0 :: b1 :: b2 :: b3 :: q) :
    step s = receiveStep [b0, b1, b2, b3] { s.consumed with rxQueue := q, waited := 0 } := by
  have hreading : s.consumed.st.reading = true := SeqState.reading_iff.2 hs
  have hdeliver : (deliver s.consumed).outcome =
      receiveStep [b0, b1, b2, b3] { s.consumed with rxQueue := q, waited := 0 } := by
    rw [deliver_outcome]
    simp [hq]
  have hseq : (seqMove s.consumed).outcome = (deliver s.consumed).outcome := by
    rw [seqMove_of_reading hreading, if_pos (by simp [hq])]
  rw [← hdeliver]
  rcases hi with hi | hi | ⟨hi, htmo⟩ | hi
  · exact (step_of_seqTurn (.inl hi)).trans hseq
  · exact (step_of_seqTurn (.inr hi)).trans hseq
  · rw [step_of_input hi, inputMove, if_pos]
    simp only [State.timerArmed, hreading, State.consumed_latch]
    cases h : s.latch.tmo <;> simp_all [Timeout.finite]
  · rw [step_of_input hi, inputMove, if_pos hreading]

/-- The timer's end is due as log 4 says. -/
theorem State.timerDue_iff_reading (s : State) : s.timerDue = true ↔
    s.inputs = [] ∧ (s.st = .awaiting ∨ s.st = .listening) ∧ s.latch.tmo ≠ .none ∧ s.forever.length ≤ s.waited := by
  have htmo : s.latch.tmo.finite = true ↔ s.latch.tmo ≠ .none := by cases s.latch.tmo <;> decide
  rw [State.timerDue_iff, State.timerArmed, Bool.and_eq_true_iff, SeqState.reading_iff, htmo, and_assoc]

/-- Settles O39: the start write, the send and the read as the instructions they are, and the order of the moves. -/
theorem stepRunsTheDecodedInstruction : Obligations.StepRunsTheDecodedInstruction := by
  refine ⟨?_, ?_, ?_, fun s x rest h => State.consumed_of_cons h, State.timerDue_iff_reading,
    fun s h => State.consumed_of_timerDue h, fun s x rest h hf hd => State.consumed_of_forever h hf hd, ?_⟩
  · intro s v i hi hd
    have hstep : step s = (writeMove 0 v s.consumed).outcome := step_of_input hi
    rw [hstep, writeMove, if_pos ⟨rfl, start_of_decodeHost hd⟩, show decodeHost v = .ok i from hd]
    rfl
  · intro s hi hs
    rw [step_of_seqTurn hi, seqMove_of_sending (s := s.consumed) hs, exec_requestInstr]
    refine ⟨decode_request _, Eq.symm ?_⟩
    exact sendStep_next.2 ⟨hs, rfl, rfl⟩
  · intro s b0 b1 b2 b3 q i hi hs hq hd hf
    rw [step_of_queuedFrame hi hs hq, exec_classOf, classOf_decodeRsp (decodeRsp_of_decode hd hf)]
  · intro s h hf hd
    have hnone : s.nextInput = none := by simp [State.nextInput, h, hf, hd]
    exact ⟨hnone, State.consumed_of_none hnone⟩

/-! ### Reset, and the latches in IDLE -/

/-- `s` with other latches (R30). -/
def State.withLatch (l : Latch) (s : State) : State := { s with latch := l }

section
variable (l : Latch) {s : State}

/-- In IDLE no timer runs, whatever the latches hold (R106). -/
theorem State.timerArmed_of_idle (hs : s.st = .idle) : s.timerArmed = false := by
  simp [State.timerArmed, hs, SeqState.reading]

/-- In IDLE the latches do not tell whether the timer's end is due (R106). -/
theorem State.withLatch_timerDue (hs : s.st = .idle) : (s.withLatch l).timerDue = s.timerDue := by
  rw [State.timerDue_of_unarmed (State.timerArmed_of_idle hs),
    State.timerDue_of_unarmed (s := s.withLatch l) (State.timerArmed_of_idle hs)]

/-- In IDLE the latches do not tell which move is next (R34). -/
theorem State.withLatch_nextInput (hs : s.st = .idle) : (s.withLatch l).nextInput = s.nextInput := by
  unfold State.nextInput
  rw [State.withLatch_timerDue l hs]
  rfl

/-- Taking a move in IDLE does not look at the latches (R34). -/
theorem State.withLatch_consumed (hs : s.st = .idle) : (s.withLatch l).consumed = s.consumed.withLatch l := by
  unfold State.consumed State.foreverTurn
  rw [State.withLatch_timerDue l hs]
  rfl

/-- SEQ reads no latch in IDLE (R110). -/
theorem seqMove_withLatch (hs : s.st = .idle) :
    (seqMove (s.withLatch l)).outcome = mapNext (State.withLatch l) (seqMove s).outcome := by
  rw [seqMove_of_notBusy (.inl hs), seqMove_of_notBusy (s := s.withLatch l) (.inl hs)]
  rfl

/-- A host write in IDLE does not read them: a START writes them, and any other write leaves them (R30, R31). -/
theorem writeMove_withLatch (i v : Byte) (s : State) :
    (writeMove i v (s.withLatch l)).outcome = (writeMove i v s).outcome ∨
    (writeMove i v (s.withLatch l)).outcome = mapNext (State.withLatch l) (writeMove i v s).outcome := by
  unfold writeMove
  split
  · left
    split
    · next i hd =>
      obtain ⟨op, hclass⟩ := classOf_decodeHost hd
      rw [Move.outcome, Move.outcome, exec_classOf, exec_classOf, hclass]
      rfl
    · rfl
  · right
    simp only [Move.outcome, hostWrite]
    split_ifs <;> rfl

/-- A host read does not read them, which are no register (R17, R30). -/
theorem hostRead_withLatch (i : Byte) (s : State) :
    hostRead i (s.withLatch l) = mapNext (State.withLatch l) (hostRead i s) := by
  have hreg : (s.withLatch l).reg i = s.reg i := rfl
  rw [hostRead, hostRead, hreg]
  cases s.reg i <;> rfl

/-- In IDLE a move overwrites the latches or leaves them, and reads none of them (R34). -/
theorem inputMove_withLatch (hs : s.st = .idle) (x : Input) :
    (inputMove x (s.withLatch l)).outcome = (inputMove x s).outcome ∨
    (inputMove x (s.withLatch l)).outcome = mapNext (State.withLatch l) (inputMove x s).outcome := by
  cases x with
  | write i v => exact writeMove_withLatch l i v s
  | read i => exact .inr (hostRead_withLatch l i s)
  | reset => exact .inl rfl
  | arrive bs => exact .inr rfl
  | arriveAny => exact .inr rfl
  | expire =>
    right
    simp [inputMove, State.timerArmed_of_idle hs, State.timerArmed_of_idle (s := s.withLatch l) hs, Move.outcome, mapNext]
  | disconnect =>
    right
    simp [inputMove, State.withLatch, hs, SeqState.reading, Move.outcome, mapNext]
  | seq => exact .inr (seqMove_withLatch l hs)

end

/-- Settles O1: the reset values by evaluation, the latches by the moves that can come in IDLE. -/
theorem resetLeavesEverySpecValue : Obligations.ResetLeavesEverySpecValue := by
  refine ⟨rfl, rfl, rfl, rfl, rfl, rfl, rfl, rfl, rfl, rfl, rfl, rfl, rfl, rfl, rfl, rfl, ?_⟩
  intro s l hs
  change step (s.withLatch l) = step s ∨ step (s.withLatch l) = mapNext (State.withLatch l) (step s)
  have hnext := State.withLatch_nextInput l hs
  cases hi : s.nextInput with
  | none =>
    rw [step_of_noInput hi, step_of_noInput (hnext.trans hi)]
    exact .inr (seqMove_withLatch l hs)
  | some x =>
    rw [step_of_input hi, step_of_input (hnext.trans hi), State.withLatch_consumed l hs]
    exact inputMove_withLatch l (s := s.consumed) hs x

end Sys2Proof.Machine
end

section
/-! PROOFS. The statements of 20_memory.md: the window of a lost byte, words of the encoding tables, what a step sends and
what it reads. -/

namespace Sys2Proof.Machine

/-! ### Frames and words -/

/-- A window of four bytes passes exactly when its last byte is the checksum of the others (R74, R75). -/
theorem validate_passes_iff {b0 b1 b2 b3 : Byte} :
    (∃ p, validate [b0, b1, b2, b3] = .ok p) ↔ b3 = b0 ^^^ b1 ^^^ b2 := by
  by_cases h : b3 = b0 ^^^ b1 ^^^ b2
  · exact iff_of_true ⟨_, h ▸ validate_valid b0 b1 b2⟩ h
  · exact iff_of_false (by simp [validate_invalid h]) h

/-- The checksum stands for the byte it was made with: the other two and it give that byte back (R69). -/
theorem xor_checksum_recovers_code (c a d : Byte) : a ^^^ d ^^^ checksum c a d = c := by
  calc a ^^^ d ^^^ (c ^^^ a ^^^ d)
      = c ^^^ ((a ^^^ d) ^^^ (a ^^^ d)) := by ac_rfl
    _ = c := by simp

/-- Settles O10: what is left of the first frame makes up its own lost byte, which the second frame's first must be. -/
theorem lostByteWindowPassesOnEqualCodes : Obligations.LostByteWindowPassesOnEqualCodes := by
  intro f g hf _
  have hcheck : f.b3 = checksum f.b0 f.b1 f.b2 := validate_passes_iff.1 hf
  rw [validate_passes_iff, hcheck, xor_checksum_recovers_code, eq_comm]

/-- Settles O13: each word by evaluating the decoder on it. -/
theorem specWordsDecode : Obligations.SpecWordsDecode :=
  ⟨rfl, rfl, rfl, rfl, rfl, rfl, rfl, rfl, rfl⟩

/-! ### What a read records and leaves -/

/-- `t` is `s` after a read that returned `r`, as far as the transport's histories, the queue and the receive registers go:
the read is recorded, nothing is sent, and no byte is taken beyond the result (R27, R32, R40). -/
structure State.ReadRecorded (r : List Byte) (s t : State) : Prop where
  txlog : t.txlog = s.txlog
  rxlog : t.rxlog = s.rxlog ++ [r]
  rxQueue : t.rxQueue = s.rxQueue
  rx : t.rx = rxRegsOf r

/-- The record itself, with DECODE's effect behind it (R40, R71). -/
theorem State.recordRead_readRecorded (dbg : Bool) (r : List Byte) (s : State) :
    s.ReadRecorded r ((s.rxRead r).decodeRsp dbg r) := by
  constructor <;> simp

/-- The receive step, however it ends (R80, R81). -/
theorem State.await_readRecorded (r : List Byte) (s : State) : s.ReadRecorded r (s.await r) := by
  have hrecord := s.recordRead_readRecorded s.latch.dbg r
  rcases State.await_cases r s with ⟨e, -, heq⟩ | ⟨p, -, -, heq⟩ | ⟨p, -, -, heq⟩ <;> rw [heq]
  · exact { hrecord with }
  · rw [State.succeed_eq]
    exact { hrecord with }
  · exact { hrecord with }

/-- The listen step, however it ends (R92 to R97). -/
theorem State.listen_readRecorded (r : List Byte) (s : State) : s.ReadRecorded r (s.listen r) := by
  have hrecord := s.recordRead_readRecorded s.latch.dbg r
  rcases State.listen_cases r s with ⟨n, -, heq⟩ | ⟨f, -, heq⟩ | ⟨p, -, -, heq⟩ | ⟨p, -, -, heq⟩ | ⟨p, -, -, -, heq⟩ <;>
    rw [heq] <;> exact { hrecord with }

/-- Settles O44: only the send step writes the log, and a reset empties it. -/
theorem framesLeaveOnlyFromSending : Obligations.FramesLeaveOnlyFromSending := by
  intro s t hstep
  cases step_block hstep with
  | kept ht => exact .inl (by rw [ht])
  | start op tmoen dbg ht => exact .inl (ht ▸ rfl)
  | send hs ht =>
    rw [ht, State.send_eq]
    exact .inr (.inl ⟨hs, rfl, Op.afterSend_eq _⟩)
  | await hs ht => exact .inl (ht ▸ (s.readTaken.await_readRecorded _).txlog)
  | listen hs ht => exact .inl (ht ▸ (s.readTaken.listen_readRecorded _).txlog)
  | reset ht hi => exact .inr (.inr ⟨hi, ht ▸ rfl⟩)

/-! ### What the queue gains and loses -/

/-- The bytes that the next move brings: those of an arrival, named or not, and none on any other move (R42, log 2). -/
def State.arriving (s : State) : List Byte :=
  match s.nextInput with
  | some (.arrive bs) => bs
  | some .arriveAny => Config.arrival s.draws
  | _ => []

/-- A move that is no arrival brings none. -/
theorem State.arriving_eq_nil {s : State}
    (h : (∀ bs, s.nextInput ≠ some (.arrive bs)) ∧ s.nextInput ≠ some .arriveAny) : s.arriving = [] := by
  obtain ⟨hnamed, hany⟩ := h
  unfold State.arriving
  split
  · next bs hi => exact absurd hi (hnamed bs)
  · next hi => exact absurd hi hany
  · rfl

/-- A step without a read keeps the record of reads, and the queue but for what arrives behind it (R42). -/
def State.QueueGrows (s t : State) : Prop := t.rxlog = s.rxlog ∧ t.rxQueue = s.rxQueue ++ s.arriving

/-- On a move that is no arrival the queue is then just kept. -/
theorem State.QueueGrows.of_noArrival {s t : State}
    (h : (∀ bs, s.nextInput ≠ some (.arrive bs)) ∧ s.nextInput ≠ some .arriveAny)
    (hlog : t.rxlog = s.rxlog) (hqueue : t.rxQueue = s.rxQueue) : s.QueueGrows t :=
  ⟨hlog, by rw [hqueue, State.arriving_eq_nil h, List.append_nil]⟩

/-- A step in AWAITING or LISTENING that takes the next up to four queued bytes, and records exactly them (R40, R47). -/
def State.ReadsNextFour (s t : State) : Prop :=
  (s.st = .awaiting ∨ s.st = .listening) ∧ t.rxlog = s.rxlog ++ [s.rxQueue.take 4] ∧ t.rxQueue = s.rxQueue.drop 4 ∧
    t.rx = ⟨BitVec.ofNat 3 (min 4 s.rxQueue.length), s.rxQueue[0]?, s.rxQueue[1]?, s.rxQueue[2]?, s.rxQueue[3]?⟩

/-- The receive registers after a read hold its count and the bytes from the front of the queue (R27, R40). -/
theorem rxRegsOf_take_four (q : List Byte) :
    rxRegsOf (q.take 4) = ⟨BitVec.ofNat 3 (min 4 q.length), q[0]?, q[1]?, q[2]?, q[3]?⟩ := by
  simp [rxRegsOf]

/-- What is recorded of the bytes taken from the queue makes the step such a read. -/
theorem State.ReadRecorded.readsNextFour {s t : State} (h : s.readTaken.ReadRecorded (s.rxQueue.take 4) t)
    (hs : s.st = .awaiting ∨ s.st = .listening) : s.ReadsNextFour t :=
  ⟨hs, h.rxlog, h.rxQueue, h.rx.trans (rxRegsOf_take_four _)⟩

/-- Settles O45: the receive and the listen step are the reads, an arrival puts its bytes behind the queue, and no other
move but a reset touches the queue or the record. -/
theorem everyReadTakesTheNextFourBytes : Obligations.EveryReadTakesTheNextFourBytes := by
  intro s t hstep hreset
  change s.QueueGrows t ∨ s.ReadsNextFour t
  cases step_cases hstep with
  | wait ht _ ha => exact .inl (.of_noArrival ha (ht ▸ rfl) (ht ▸ rfl))
  | start op v tmoen dbg ht _ hi => exact .inl (.of_noArrival (by simp [hi]) (ht ▸ rfl) (ht ▸ rfl))
  | send _ ht hi =>
    rw [State.send_eq] at ht
    exact .inl (.of_noArrival (by rcases hi with hi | hi <;> simp [hi]) (ht ▸ rfl) (ht ▸ rfl))
  | await hs ht => exact .inr ((ht ▸ s.readTaken.await_readRecorded _).readsNextFour (.inl hs))
  | listen hs ht => exact .inr ((ht ▸ s.readTaken.listen_readRecorded _).readsNextFour (.inr hs))
  | read i v ht hi => exact .inl (.of_noArrival (by simp [hi]) (ht ▸ rfl) (ht ▸ rfl))
  | write i v c a g ht hi => exact .inl (.of_noArrival (by simp [hi]) (ht ▸ rfl) (ht ▸ rfl))
  | reset _ hi => exact absurd hi hreset
  | arrive bs ht hi => exact .inl ⟨ht ▸ rfl, by rw [ht, State.arriving, hi]⟩
  | arriveAny ht hi => exact .inl ⟨ht ▸ rfl, by rw [ht, State.arriving, hi]⟩

end Sys2Proof.Machine
end

section
/-! PROOFS. The statements of 30_encoding.md: decoding and encoding undo each other, what the decoder refuses, the operand
table, and the command language. -/

namespace Sys2Proof.Machine

/-! ### The CTRL byte of a start command -/

/-- The start command of an operation, as a row of the HOSTCMD format (R55, R62). -/
def Op.startCommand (op : Op) (r : BitVec 2) (tmoen dbg : Bool) : Instr :=
  match op with
  | .discover => .init r tmoen dbg
  | .set => .set r tmoen dbg
  | .clear => .clear r tmoen dbg
  | .toggle => .toggle r tmoen dbg
  | .portRead => .port r tmoen dbg
  | .portWrite => .portSet r tmoen dbg

/-- Its byte carries the operation's number (R55, R62). -/
theorem encode_startCommand (op : Op) (r : BitVec 2) (tmoen dbg : Bool) :
    encode (op.startCommand r tmoen dbg) = [hostByte op.code r tmoen dbg] := by
  cases op <;> rfl

/-- The fields of `1rrtdooo` stand where R55 puts them. -/
theorem hostByte_fields (op : BitVec 3) (r : BitVec 2) (tmoen dbg : Bool) :
    (hostByte op r tmoen dbg).getLsbD 7 = true ∧ (hostByte op r tmoen dbg).extractLsb' 5 2 = r ∧
    (hostByte op r tmoen dbg).getLsbD 4 = tmoen ∧ (hostByte op r tmoen dbg).getLsbD 3 = dbg ∧
    (hostByte op r tmoen dbg).extractLsb' 0 3 = op := by
  revert op r tmoen dbg; decide

/-- A byte with START = 1 is made of those fields and nothing else (R55). -/
theorem hostByte_of_fields {v : Byte} (hv : v.getLsbD 7 = true) :
    hostByte (v.extractLsb' 0 3) (v.extractLsb' 5 2) (v.getLsbD 4) (v.getLsbD 3) = v := by
  revert v; decide

/-- The decoder reads an operation's byte as its start command (R55, R62). -/
theorem decodeHost_hostByte (op : Op) (r : BitVec 2) (tmoen dbg : Bool) :
    decodeHost (hostByte op.code r tmoen dbg) = .ok (op.startCommand r tmoen dbg) := by
  obtain ⟨hstart, hr, ht, hd, hop⟩ := hostByte_fields op.code r tmoen dbg
  simp only [decodeHost, hstart, hr, ht, hd, hop]
  cases op <;> rfl

/-! ### Decoding and encoding -/

/-- Settles O11: a start command by the fields of its byte, a frame by its first byte, which picks the row. -/
theorem decodeEncodeAgree : Obligations.DecodeEncodeAgree := by
  intro i
  cases i
  case init r tmoen dbg => exact decodeHost_hostByte .discover r tmoen dbg
  case set r tmoen dbg => exact decodeHost_hostByte .set r tmoen dbg
  case clear r tmoen dbg => exact decodeHost_hostByte .clear r tmoen dbg
  case toggle r tmoen dbg => exact decodeHost_hostByte .toggle r tmoen dbg
  case port r tmoen dbg => exact decodeHost_hostByte .portRead r tmoen dbg
  case portSet r tmoen dbg => exact decodeHost_hostByte .portWrite r tmoen dbg
  all_goals rfl

/-- A byte that decodes is the byte of the command it decodes to (R55). -/
theorem encode_of_decodeHost {v : Byte} {i : Instr} (h : decodeHost v = .ok i) : encode i = [v] := by
  have hv : v.getLsbD 7 = true := start_of_decodeHost h
  rcases decodeHost_of_start hv with ⟨_, op, _, _, hop⟩ | ⟨hreserved, _⟩
  · have hbyte : hostByte op.code (v.extractLsb' 5 2) (v.getLsbD 4) (v.getLsbD 3) = v := by
      rw [hop, hostByte_of_fields hv]
    rw [← hbyte, decodeHost_hostByte] at h
    cases h
    rw [encode_startCommand, hbyte]
  · rw [hreserved] at h
    cases h

/-- A frame decoded as a request is that request's own bytes (R53, R59, R90). -/
theorem classOf_decodeReq {f : Frame} {i : Instr} (h : decodeReq f = .ok i) : classOf i = .request f := by
  unfold decodeReq at h
  split_ifs at h <;> cases h <;> cases f <;> simp_all [classOf]

/-- A row of a frame format is encoded as the frame it stands for (R53, R54). -/
theorem encode_of_frame {i : Instr} {f : Frame} (h : classOf i = .request f ∨ classOf i = .response f) :
    encode i = f.toList := by
  cases i <;> rcases h with h | h <;> cases h <;> rfl

/-- A frame that decodes is the frame of the row it decodes to (R53, R54). -/
theorem encode_of_decodeFrame {f : Frame} {i : Instr} (h : decodeFrame f = .ok i) : encode i = f.toList := by
  unfold decodeFrame at h
  split at h
  · next hrsp =>
    cases h
    exact encode_of_frame (.inr (classOf_decodeRsp hrsp))
  · exact encode_of_frame (.inl (classOf_decodeReq h))

/-- Settles O12: one byte by its fields, four by the row of their first byte, and nothing else is accepted. -/
theorem encodeDecodeAgree : Obligations.EncodeDecodeAgree := by
  intro bs i h
  unfold decode at h
  split at h
  · exact encode_of_decodeHost h
  · exact encode_of_decodeFrame h
  · cases h

/-! ### What the decoder refuses -/

/-- Operation numbers end at 5 (R62, R63). -/
theorem Op.code_lt (op : Op) : op.code.toNat < 6 := by
  cases op <;> decide

/-- A CTRL byte with START = 1 and a reserved OP is refused by that name (R63). -/
theorem decodeHost_of_reservedOp {v : Byte} (hv : v.getLsbD 7 = true) (hop : 6 ≤ (v.extractLsb' 0 3).toNat) :
    decodeHost v = .error (.reservedOp (v.extractLsb' 0 3)) := by
  rcases decodeHost_of_start hv with ⟨_, op, _, _, hcode⟩ | ⟨hd, _⟩
  · exact absurd (hcode ▸ op.code_lt) (Nat.not_lt.2 hop)
  · exact hd

/-- What starts an operation is a HOSTCMD row (R55). -/
theorem formatOf_of_start {i : Instr} {op : Op} {tmoen dbg : Bool} (h : classOf i = .start op tmoen dbg) :
    formatOf i = .hostCmd := by
  cases i <;> cases h <;> rfl

/-- Settles O14: START = 1 leaves an operation's number or a reserved one, and only one byte and four are looked at. -/
theorem reservedEncodingsAreRejected : Obligations.ReservedEncodingsAreRejected := by
  refine ⟨fun v hv => if_pos hv, fun v hv hop => decodeHost_of_reservedOp hv hop, ?_, ?_⟩
  · intro v hv hop
    rcases decodeHost_of_start hv with ⟨i, op, hd, hclass, _⟩ | ⟨_, hreserved⟩
    · exact ⟨i, hd, formatOf_of_start hclass⟩
    · exact absurd hop (Nat.not_lt.2 hreserved)
  · intro bs h1 h4
    unfold decode
    split
    · exact absurd rfl h1
    · exact absurd rfl h4
    · rfl

/-- Settles O22: the write reaches the decoder in every state, and no operation has number 6 or 7. -/
theorem reservedOperationIsRefused : Obligations.ReservedOperationIsRefused := by
  intro s v hi hv hop
  rcases step_of_startWrite hi hv with ⟨op, hcode, _⟩ | ⟨hstep, _⟩
  · have hlt : (v.extractLsb' 0 3).toNat < 6 := hcode ▸ op.code_lt
    rcases hop with h | h <;> rw [h] at hlt <;> exact absurd hlt (by decide)
  · exact hstep

/-! ### Operands -/

/-- The relay-select byte of `ARG` shifts by its three low bits alone (R56, R57). -/
theorem relayBit_relayIndex (arg : Byte) : relayBit (relayIndex arg) = 1#8 <<< (arg &&& 0x07#8).toNat := by
  have hindex : (relayIndex arg).toNat = (arg &&& 0x07#8).toNat := by revert arg; decide
  rw [relayBit, hindex]

/-- Settles O15: the table's rows are the model's, a relay's bit written with the index masked off. -/
theorem operandAssemblyFollowsTheTable : Obligations.OperandAssemblyFollowsTheTable := by
  intro addr arg dbg tmo
  have hbit := relayBit_relayIndex arg
  exact ⟨rfl, congrArg (packFrame 0x06#8 addr) hbit, congrArg (packFrame 0x07#8 addr) hbit,
    congrArg (packFrame 0x08#8 addr) hbit, rfl, rfl⟩

/-- The checksum of a request holds (R53, R69). -/
@[simp] theorem checksumHolds_checksum (c a d : Byte) : checksumHolds c a d (checksum c a d) = true :=
  beq_self_eq_true _

/-- What a relay operation sends as data selects one relay (R57). -/
@[simp] theorem isRelaySelector_relayBit (i : BitVec 3) : isRelaySelector (relayBit i) = true := by
  revert i; decide

/-- A latched request has its checksum and a data byte its operation supplies (R53, R56). -/
theorem Latch.requestInstr_wf (l : Latch) : l.requestInstr.wf = true := by
  obtain ⟨op, addr, arg, dbg, tmo⟩ := l
  cases op <;> simp [Latch.requestInstr, Latch.request, packFrame, Instr.wf, Op.command, Latch.reqData]

/-- A latched request is a row of the REQ format (R53). -/
theorem formatOf_requestInstr (l : Latch) : formatOf l.requestInstr = .req := by
  unfold Latch.requestInstr
  cases l.op <;> rfl

/-- Settles O16: the latched frame decodes to the request, so it is the request's encoding. -/
theorem latchedRequestIsWellFormed : Obligations.LatchedRequestIsWellFormed :=
  fun l => ⟨l.requestInstr_wf, encodeDecodeAgree _ _ (decode_request l), formatOf_requestInstr l⟩

/-- A relay selector is a power of two, so it has the bit of its relay and no other (R57, R87). -/
theorem relayOn_relayBit (i j : BitVec 3) : relayOn (relayBit i) j = decide (i = j) := by
  change (BitVec.twoPow 8 i.toNat).getLsbD j.toNat = _
  rw [BitVec.getLsbD_twoPow, decide_eq_true i.isLt, Bool.true_and, decide_eq_decide, BitVec.toNat_inj]

/-- Settles O17: the bit of the relay set, and its eight values. -/
theorem relaySelectorIsOneBit : Obligations.RelaySelectorIsOneBit :=
  ⟨relayOn_relayBit, rfl, rfl, rfl, rfl, rfl, rfl, rfl, rfl⟩

/-- Settles O18: column by column of the two tables; the complement of a byte is what it lacks to 255. -/
theorem acceptedCodeIsComplementOfCommand : Obligations.AcceptedCodeIsComplementOfCommand := by
  intro op
  have hxor : op.expect = 0xFF#8 ^^^ op.command := by cases op <;> rfl
  have hnot : 0xFF#8 ^^^ op.command = ~~~op.command := BitVec.allOnes_xor
  exact ⟨hxor, by rw [hxor, hnot, BitVec.toNat_not]⟩

/-! ### The command language -/

/-- A CTRL byte with START = 1, OP 0 and the two options (R55). -/
def optionBits (tmoen dbg : Bool) : Byte :=
  0x80#8 ||| (if tmoen then 0x10#8 else 0) ||| (if dbg then 0x08#8 else 0)

/-- A start command's byte with zero reserved bits is its options and its operation number (R55, R67). -/
theorem hostByte_eq_optionBits_or (op : BitVec 3) (tmoen dbg : Bool) :
    hostByte op 0#2 tmoen dbg = optionBits tmoen dbg ||| op.setWidth 8 := by
  revert op tmoen dbg; decide

/-- A line writes ADDR, ARG and the start command of its subcommand's operation (R67). -/
theorem CliLine.expand_eq (a : Byte) (tmoen dbg : Bool) (c : CliCommand) :
    CliLine.expand ⟨a, tmoen, dbg, c⟩ =
      [.write 1 a, .write 2 c.arg, .write 0 (optionBits tmoen dbg ||| c.op.code.setWidth 8)] := by
  rw [← hostByte_eq_optionBits_or]
  rfl

/-- Its CTRL byte decodes to that start command with its options (R55, R62, R67). -/
theorem decode_optionBits_or (op : Op) (tmoen dbg : Bool) :
    decode [optionBits tmoen dbg ||| op.code.setWidth 8] = .ok (op.startCommand 0 tmoen dbg) := by
  rw [← hostByte_eq_optionBits_or]
  exact decodeHost_hostByte op 0#2 tmoen dbg

/-- Settles O19: each subcommand by its operation; DISCOVER's number adds no bit to the options. -/
theorem cliLineExpandsToItsStartCommand : Obligations.CliLineExpandsToItsStartCommand := by
  intro a tmoen dbg
  have hline := CliLine.expand_eq a tmoen dbg
  have hbyte := fun op => decode_optionBits_or op tmoen dbg
  have hzero : optionBits tmoen dbg ||| Op.discover.code.setWidth 8 = optionBits tmoen dbg := BitVec.or_zero
  have hinit : CliLine.expand ⟨a, tmoen, dbg, .init⟩ = [.write 1 a, .write 2 0, .write 0 (optionBits tmoen dbg)] :=
    hzero ▸ hline .init
  have hdiscover : decode [optionBits tmoen dbg] = .ok (.init 0 tmoen dbg) := hzero ▸ hbyte .discover
  exact ⟨⟨hinit, hdiscover⟩,
    fun n => hline (.set n), hbyte .set, fun n => hline (.clear n), hbyte .clear,
    fun n => hline (.toggle n), hbyte .toggle, ⟨hline .port, hbyte .portRead⟩,
    fun v => hline (.portSet v), hbyte .portWrite⟩

end Sys2Proof.Machine
end

section
/-! PROOFS. The statements of 40_codec.md: the checksum and its strength, DECODE against ENCODE, the short read, and what
a request and a response leave unchanged. -/

namespace Sys2Proof.Machine

/-! ### CHECKSUM, ENCODE and DECODE -/

/-- Equal bytes cancel in the checksum (R69). -/
theorem checksum_self_left (x d : Byte) : checksum x x d = d := by
  rw [checksum, BitVec.xor_self, BitVec.zero_xor]

/-- Settles O7: the law is the definition, and equal bytes cancel. -/
theorem checksumIsXorOfThree : Obligations.ChecksumIsXorOfThree :=
  ⟨fun _ _ _ => rfl, rfl, rfl, checksum_self_left, rfl⟩

/-- A list that is not four bytes long is a LengthError (R72). -/
theorem validate_of_length_ne {r : List Byte} (h : r.length ≠ 4) : validate r = .error (.length r.length) := by
  rcases validate_cases r with ⟨-, hv⟩ | ⟨b0, b1, b2, b3, rfl, -, -⟩ | ⟨b0, b1, b2, rfl, -⟩
  · exact hv
  · exact absurd rfl h
  · exact absurd rfl h

/-- Settles O8: DECODE's three verdicts, each on its own lists. -/
theorem decodeInvertsEncode : Obligations.DecodeInvertsEncode :=
  ⟨fun c a d => ⟨rfl, validate_valid c a d⟩, fun _ _ _ _ => validate_invalid, fun _ => validate_of_length_ne⟩

/-! ### The strength of the check -/

section
variable {b0 b1 b2 b3 : Byte}

/-- The fourth byte is the checksum of the others exactly when all four cancel (R74). -/
theorem eq_xor_iff_xor_eq_zero : b3 = b0 ^^^ b1 ^^^ b2 ↔ b0 ^^^ b1 ^^^ b2 ^^^ b3 = 0 := by
  rw [eq_comm]
  exact BitVec.xor_eq_zero_iff.symm

/-- Four bytes that cancel are a valid frame (R74, R75). -/
theorem validate_of_xor_eq_zero (h : b0 ^^^ b1 ^^^ b2 ^^^ b3 = 0) : validate [b0, b1, b2, b3] = .ok ⟨b0, b1, b2⟩ := by
  rw [eq_xor_iff_xor_eq_zero.2 h]
  exact validate_valid b0 b1 b2

/-- Four bytes that do not are a ChecksumError (R74). -/
theorem validate_of_xor_ne_zero (h : b0 ^^^ b1 ^^^ b2 ^^^ b3 ≠ 0) :
    validate [b0, b1, b2, b3] = .error (.checksum ⟨b0, b1, b2, b3⟩) :=
  validate_invalid (mt eq_xor_iff_xor_eq_zero.1 h)

/-- What passes the check is exactly what cancels (R77). -/
theorem validate_passes_iff_xor_eq_zero : (∃ p, validate [b0, b1, b2, b3] = .ok p) ↔ b0 ^^^ b1 ^^^ b2 ^^^ b3 = 0 :=
  validate_passes_iff.trans eq_xor_iff_xor_eq_zero

end

/-- A valid frame is its first three bytes, and any three bytes are those of one: ENCODE's (R70, R75). -/
def validFrameEquiv : {f : Frame // ∃ p, validate f.toList = .ok p} ≃ Byte × Byte × Byte where
  toFun f := (f.1.b0, f.1.b1, f.1.b2)
  invFun b := ⟨packFrame b.1 b.2.1 b.2.2, _, validate_valid b.1 b.2.1 b.2.2⟩
  left_inv := by
    rintro ⟨⟨b0, b1, b2, b3⟩, hf⟩
    have hcheck : b3 = b0 ^^^ b1 ^^^ b2 := validate_passes_iff.1 hf
    subst hcheck
    rfl
  right_inv _ := rfl

/-- There are 256 bytes (R9). -/
theorem card_byte : Nat.card Byte = 2 ^ 8 := by
  rw [Nat.card_congr BitVec.equivFin.toEquiv, Nat.card_fin]

/-- Settles O9: a flipped mask joins the XOR of the four bytes once for each byte it is flipped in, and twice is nothing. -/
theorem checksumStrengthIsExactlyXor : Obligations.ChecksumStrengthIsExactlyXor := by
  refine ⟨?count, ?odd, ?even, fun _ _ _ _ => validate_passes_iff_xor_eq_zero⟩
  case count => rw [Nat.card_congr validFrameEquiv, Nat.card_prod, Nat.card_prod, card_byte, ← pow_add, ← pow_add]
  case odd =>
    intro b0 b1 b2 b3 m hzero hm
    have hodd : b0 ^^^ b1 ^^^ b2 ^^^ b3 ^^^ m ≠ 0 := by simpa [hzero] using hm
    refine ⟨?_, ?_, ?_, ?_⟩ <;> refine validate_of_xor_ne_zero (ne_of_eq_of_ne ?_ hodd) <;> ac_rfl
  case even =>
    intro b0 b1 b2 b3 m hzero
    have hpair : b0 ^^^ b1 ^^^ b2 ^^^ b3 ^^^ (m ^^^ m) = 0 := by simpa using hzero
    have hfour : b0 ^^^ b1 ^^^ b2 ^^^ b3 ^^^ (m ^^^ m) ^^^ (m ^^^ m) = 0 := by simpa using hzero
    refine ⟨?_, ?_, ?_, ?_, ?_, ?_, ?all⟩
    case all => exact validate_of_xor_eq_zero (Eq.trans (by ac_rfl) hfour)
    all_goals exact validate_of_xor_eq_zero (Eq.trans (by ac_rfl) hpair)

/-! ### The short read -/

section
variable {r : List Byte} (h : r.length < 4)
include h

/-- DECODE of a short read writes nothing (R71, R72, R73). -/
theorem State.decodeRsp_short (dbg : Bool) (s : State) : s.decodeRsp dbg r = s := by
  rw [State.decodeRsp, validate_short h]
  exact State.echoRead_short h dbg s

/-- A short read writes no fourth receive byte (R27). -/
theorem rxRegsOf_short : rxRegsOf r = ⟨BitVec.ofNat 3 r.length, r[0]?, r[1]?, r[2]?, none⟩ := by
  rw [rxRegsOf, List.getElem?_eq_none (Nat.le_of_lt_succ h)]

/-- The receive step on a short read: the record, then the failure entry with LENGTH (R72, R80, R101). -/
theorem State.await_short (s : State) : s.await r = (s.rxRead r).raise .length := by
  unfold State.await
  rw [State.decodeRsp_short h, validate_short h]
  rfl

end

/-- Settles O33: the read ends with the bytes that have arrived, and these are too few. -/
theorem shortReadFailsSingleShot : Obligations.ShortReadFailsSingleShot := by
  intro s hs hq hi
  rw [step_of_endedRead (.inl hs) hi hq, ← rxRegsOf_short hq]
  exact receiveStep_next.2 (.inl ⟨hs, by rw [State.await_short hq]; rfl⟩)

/-! ### What a request leaves unchanged -/

/-- A REQ row is the send step of a frame (R53). -/
theorem classOf_req {i : Instr} (h : formatOf i = .req) : ∃ f, classOf i = .request f := by
  cases i <;> cases h <;> exact ⟨_, rfl⟩

/-- Settles O37: the send step writes the transmit registers, ECHOES, TXLOG and ST alone, and ECHOES only with L_DBG. -/
theorem requestFrame : Obligations.RequestFrame := by
  intro i s t hformat hexec
  obtain ⟨f, hclass⟩ := classOf_req hformat
  rw [exec_classOf, hclass] at hexec
  obtain ⟨-, -, rfl⟩ := sendStep_next.1 hexec
  rw [State.send_eq]
  simp +contextual

/-! ### What a response leaves unchanged -/

/-- An RSP row is the receive or listen step of a read that returned its frame (R54). -/
theorem classOf_rsp {i : Instr} (h : formatOf i = .rsp) : ∃ f, classOf i = .response f := by
  cases i <;> cases h <;> exact ⟨_, rfl⟩

/-- The row of code 254 is ANNOUNCE (R60). -/
theorem announce_of_classOf {i : Instr} {f : Frame} (h : classOf i = .response f) (hcode : f.b0 = 0xFE#8) :
    ∃ a d k, i = .announce a d k := by
  cases i <;> cases h
  case announce a d k => exact ⟨a, d, k, rfl⟩
  all_goals simp at hcode

/-- DECODE takes a valid frame's code from its first byte (R75). -/
theorem validate_code {f : Frame} {p : Response} (h : validate f.toList = .ok p) : p.code = f.b0 := by
  rcases validate_cases f.toList with ⟨hlen, -⟩ | ⟨_, _, _, _, -, -, hv⟩ | ⟨b0, b1, b2, hf, hv⟩
  · exact absurd rfl hlen
  · rw [hv] at h
    cases h
  · rw [hv] at h
    cases h
    exact (List.cons.inj hf).1.symm

/-- With `L_DBG = 0` DECODE does not echo (R73, R109). -/
theorem State.decodeRsp_echoes_silent {dbg : Bool} (h : dbg = false) (r : List Byte) (s : State) :
    (s.decodeRsp dbg r).echoes = s.echoes := by
  rcases s.decodeRsp_echoes dbg r with hkept | ⟨_, _, _, _, -, hdbg, -⟩
  · exact hkept
  · cases h.symm.trans hdbg

/-- Without a valid frame DECODE leaves the response registers (R74). -/
theorem State.decodeRsp_rsp_invalid {r : List Byte} (h : ∀ p, validate r ≠ .ok p) (dbg : Bool) (s : State) :
    (s.decodeRsp dbg r).rsp = s.rsp := by
  cases hv : validate r with
  | error e => exact State.decodeRsp_rsp_error hv
  | ok p => exact absurd hv (h p)

/-- The receive step is the record and DECODE, and beyond them writes `ST`, `ERR` and `RESULT` alone (R71, R80, R81). -/
theorem State.await_eq (r : List Byte) (s : State) :
    s.await r = { (s.rxRead r).decodeRsp s.latch.dbg r with
      st := (s.await r).st, err := (s.await r).err, result := (s.await r).result } := by
  rcases State.await_cases r s with ⟨e, -, heq⟩ | ⟨p, -, -, heq⟩ | ⟨p, -, -, heq⟩ <;> rw [heq]
  · rfl
  · rw [State.succeed_eq]
  · rfl

/-- The listen step is the record and DECODE, and beyond them writes `ST`, `ERR` and `REPORTS` alone (R71, R92 to R97). -/
theorem State.listen_eq (r : List Byte) (s : State) :
    s.listen r = { (s.rxRead r).decodeRsp s.latch.dbg r with
      st := (s.listen r).st, err := (s.listen r).err, reports := (s.listen r).reports } := by
  rcases State.listen_cases r s with ⟨n, -, heq⟩ | ⟨f, -, heq⟩ | ⟨p, -, -, heq⟩ | ⟨p, -, -, heq⟩ | ⟨p, -, -, -, heq⟩ <;>
    rw [heq] <;> rfl

/-- The listen step reports only an ANNOUNCE, and goes on listening then (R95). -/
theorem State.listen_reports (r : List Byte) (s : State) :
    (s.listen r).reports = s.reports ∨
    ((s.listen r).st = .listening ∧ ∃ p, validate r = .ok p ∧ p.code = 0xFE#8) := by
  rcases State.listen_cases r s with ⟨n, -, heq⟩ | ⟨f, -, heq⟩ | ⟨p, hp, hcode, heq⟩ | ⟨p, -, -, heq⟩ | ⟨p, -, -, -, heq⟩ <;>
    rw [heq]
  case inr.inr.inl => exact .inr ⟨rfl, p, hp, hcode⟩
  all_goals exact .inl (by simp)

section
variable {r : List Byte} {s t : State} (h : receiveStep r s = .next t)
include h

/-- What a read writes: its record, what DECODE writes, and of the rest `ST`, `ERR`, `RESULT` and `REPORTS` alone. -/
theorem receiveStep_eq :
    t = { s with
      rx := rxRegsOf r, rxlog := s.rxlog ++ [r]
      rsp := ((s.rxRead r).decodeRsp s.latch.dbg r).rsp, echoes := ((s.rxRead r).decodeRsp s.latch.dbg r).echoes
      st := t.st, err := t.err, result := t.result, reports := t.reports } := by
  rcases receiveStep_next.1 h with ⟨-, rfl⟩ | ⟨-, rfl⟩
  · rw [State.await_eq, State.decodeRsp_eq]
    rfl
  · rw [State.listen_eq, State.decodeRsp_eq]
    rfl

/-- A read writes RESULT only as PORT_READ's success (R25, R81). -/
theorem receiveStep_result : t.result = s.result ∨ (s.st = .awaiting ∧ t.st = .success ∧ s.latch.op = .portRead) := by
  rcases receiveStep_next.1 h with ⟨hs, rfl⟩ | ⟨-, rfl⟩
  · exact (State.await_result r s).imp_right fun ⟨hst, hop, _⟩ => ⟨hs, hst, hop⟩
  · exact .inl (State.listen_result r s)

/-- A read reports only an ANNOUNCE in LISTENING (R95). -/
theorem receiveStep_reports :
    t.reports = s.reports ∨
    (s.st = .listening ∧ t.st = .listening ∧ ∃ p, validate r = .ok p ∧ p.code = 0xFE#8) := by
  rcases receiveStep_next.1 h with ⟨-, rfl⟩ | ⟨hs, rfl⟩
  · rw [State.await_eq]
    exact .inl (by simp)
  · exact (State.listen_reports r s).imp_right (.intro hs)

/-- A read writes `ERR` only as the failure entry (R101). -/
theorem receiveStep_err : t.err = s.err ∨ t.st = .failed := by
  rcases receiveStep_next.1 h with ⟨-, rfl⟩ | ⟨-, rfl⟩
  · exact (State.await_err r s).imp_right And.right
  · exact (State.listen_err r s).imp_right And.right

end

/-- Settles O38: what the read of the response's frame writes, and when. -/
theorem responseFrame : Obligations.ResponseFrame := by
  intro i s t hformat hexec
  obtain ⟨f, hclass⟩ := classOf_rsp hformat
  rw [exec_classOf, hclass] at hexec
  have hresult := receiveStep_result hexec
  have herr := receiveStep_err hexec
  have hreports : t.reports = s.reports ∨ (s.st = .listening ∧ t.st = .listening ∧ ∃ a d k, i = .announce a d k) :=
    (receiveStep_reports hexec).imp_right fun ⟨hs, ht, _, hp, hcode⟩ =>
      ⟨hs, ht, announce_of_classOf hclass ((validate_code hp).symm.trans hcode)⟩
  rw [receiveStep_eq hexec, encode_of_frame (.inr hclass)]
  exact ⟨rfl, rfl, rfl, rfl, rfl, rfl, rfl, rfl, rfl, rfl, rfl, rfl, (State.decodeRsp_rsp_invalid · _ _),
    hresult, hreports, herr, (State.decodeRsp_echoes_silent · _ _)⟩

end Sys2Proof.Machine
end

section
/-! PROOFS. The statements of 41_single_shot.md: the request of a single-shot operation, its response, and the command line
end to end. -/

namespace Sys2Proof.Machine

/-! ### The request -/

/-- A single-shot operation's request, when it is the latched one, is sent and awaits its response (R79). -/
theorem exec_latchedRequest {i : Instr} {op : Op} {f : Frame} {s : State} (hclass : classOf i = .request f)
    (hs : s.st = .sending) (hsingle : op ≠ .discover)
    (hf : Latch.request ⟨op, s.latch.addr, s.latch.arg, s.latch.dbg, s.latch.tmo⟩ = f) (hop : s.latch.op = op) :
    exec i s = .next { s with
      tx := ⟨some f.b0, some f.b1, some f.b2, some f.b3⟩
      echoes := if s.latch.dbg then s.echoes ++ [⟨.tx, f⟩] else s.echoes
      txlog := s.txlog ++ [f]
      st := .awaiting } := by
  subst hop hf
  rw [exec_classOf, hclass]
  refine sendStep_next.2 ⟨hs, rfl, ?_⟩
  rw [State.send_eq, Op.afterSend_eq, if_neg hsingle]

/-- Settles O24: each operation's row of R56 is the frame its latches build. -/
theorem singleShotRequestIsSent : Obligations.SingleShotRequestIsSent := by
  intro s hs
  obtain ⟨-, hset, hclear, htoggle, hread, hwrite⟩ :=
    operandAssemblyFollowsTheTable s.latch.addr s.latch.arg s.latch.dbg s.latch.tmo
  exact ⟨exec_latchedRequest rfl hs nofun hset, exec_latchedRequest rfl hs nofun hclear,
    exec_latchedRequest rfl hs nofun htoggle, exec_latchedRequest rfl hs nofun hread,
    exec_latchedRequest rfl hs nofun hwrite⟩

/-- Settles O25: a request is the send step of the frame it is encoded as. -/
theorem requestStopsUnlessLatchedAndSending : Obligations.RequestStopsUnlessLatchedAndSending := by
  intro i s hformat
  obtain ⟨f, hclass⟩ := classOf_req hformat
  rw [exec_classOf, hclass, encode_of_frame (.inl hclass)]
  refine ⟨fun hs => if_neg hs, fun hs hne => ?_⟩
  have hf : f ≠ s.latch.request := fun h => hne (congrArg Frame.toList h)
  exact (if_pos hs).trans (if_neg hf)

/-! ### The response -/

/-- The receive step on a valid frame with the awaited code: SUCCESS, and PORT_READ takes its data (R81). -/
theorem State.await_expected {c : Byte} {s : State} (hc : c = s.latch.op.expect) (a d : Byte) :
    s.await [c, a, d, c ^^^ a ^^^ d] = { s.recordFrame c a d with
      st := .success, result := if s.latch.op = .portRead then some d else s.result } := by
  rw [State.await_valid, if_pos hc]

/-- The receive step on a valid frame with another code: CommandFailed (R81). -/
theorem State.await_unexpected {c : Byte} {s : State} (hc : c ≠ s.latch.op.expect) (a d : Byte) :
    s.await [c, a, d, c ^^^ a ^^^ d] = { s.recordFrame c a d with err := .commandFailed, st := .failed } := by
  rw [State.await_valid, if_neg hc]

/-- The row of an operation's success code, read while that operation awaits, gives that SUCCESS (R80, R81). -/
theorem exec_expectedResponse {i : Instr} {op : Op} {a d : Byte} {s : State}
    (hclass : classOf i = .response ⟨op.expect, a, d, op.expect ^^^ a ^^^ d⟩) (hs : s.st = .awaiting)
    (hop : s.latch.op = op) :
    exec i s = .next { s.recordFrame op.expect a d with
      st := .success, result := if op = .portRead then some d else s.result } := by
  subst hop
  rw [exec_classOf, hclass]
  exact receiveStep_next.2 (.inl ⟨hs, (State.await_expected rfl a d).symm⟩)

/-- Settles O26: each row carries its operation's success code, and PORT_READ's alone writes RESULT. -/
theorem expectedResponseSucceeds : Obligations.ExpectedResponseSucceeds := by
  intro s a d hs
  exact ⟨exec_expectedResponse rfl hs, exec_expectedResponse rfl hs, exec_expectedResponse rfl hs,
    exec_expectedResponse rfl hs, exec_expectedResponse rfl hs⟩

/-- Settles O27: the read takes the frame, and its code is not the awaited one. -/
theorem unexpectedCodeIsCommandFailed : Obligations.UnexpectedCodeIsCommandFailed := by
  intro s c a d q hs hi hq hc
  rw [step_of_queuedFrame (.inl hi) (.inl hs) hq]
  have hawait := State.await_unexpected (s := { s.consumed with rxQueue := q, waited := 0 }) hc a d
  exact receiveStep_next.2 (.inl ⟨hs, hawait.symm⟩)

/-! ### A command line end to end -/

/-- A start command is the START of its operation (R55, R62). -/
theorem classOf_startCommand (op : Op) (r : BitVec 2) (tmoen dbg : Bool) :
    classOf (op.startCommand r tmoen dbg) = .start op tmoen dbg := by
  cases op <;> rfl

/-- `s` after the three register writes of a command line: ADDR and ARG are written, and START is accepted (R67). -/
def State.launched (c : CliLine) (s : State) : State :=
  ({ s with addr := c.address, arg := c.command.arg, inputs := [] }.writeCtrl c.command.op.code c.debug c.timeout).startOp
    c.command.op

section
variable {s : State} {rest : List Input}

/-- A listed write to ADDR (R19). -/
theorem step_of_addrWrite {v : Byte} (hi : s.inputs = .write 1 v :: rest) :
    step s = .next { s with inputs := rest, addr := v } := by
  obtain ⟨hnext, htaken⟩ := State.consumed_of_cons hi
  rw [step_of_plainWrite hnext nofun, htaken]
  rfl

/-- A listed write to ARG (R20). -/
theorem step_of_argWrite {v : Byte} (hi : s.inputs = .write 2 v :: rest) :
    step s = .next { s with inputs := rest, arg := v } := by
  obtain ⟨hnext, htaken⟩ := State.consumed_of_cons hi
  rw [step_of_plainWrite hnext nofun, htaken]
  rfl

/-- A listed write of an operation's start command is an accepted START of it while no operation runs (R31, R55). -/
theorem step_of_startCommand {op : Op} {r : BitVec 2} {tmoen dbg : Bool} (hbusy : s.busy = false)
    (hi : s.inputs = .write 0 (hostByte op.code r tmoen dbg) :: rest) :
    step s = .next (({ s with inputs := rest } : State).writeCtrl op.code dbg tmoen |>.startOp op) := by
  obtain ⟨hnext, htaken⟩ := State.consumed_of_cons hi
  obtain ⟨hruns, -⟩ := stepRunsTheDecodedInstruction
  rw [hruns s _ _ hnext (decodeHost_hostByte op r tmoen dbg), exec_classOf, classOf_startCommand, htaken]
  exact hostStart_next.2 ⟨hbusy, rfl⟩

end

/-- The three writes of a command line launch its operation while none runs (R31, R67, R112). -/
theorem run_launch {s : State} {c : CliLine} (hbusy : s.busy = false) (hi : s.inputs = c.expand) (n : Nat) :
    Host.Core.run Sys2Proof.core (n + 3) s = Host.Core.run Sys2Proof.core n (s.launched c) := by
  rw [run_succ (n + 2) (step_of_addrWrite hi), run_succ (n + 1) (step_of_argWrite rfl)]
  exact run_succ n (step_of_startCommand hbusy rfl)

/-- Without moves of the other agents a single-shot operation sends its request and reads once (R78, R79, R80). -/
theorem run_sendThenRead {s : State} (hs : s.st = .sending) (hop : s.latch.op ≠ .discover) (hi : s.inputs = [])
    (hf : s.forever = []) (hr : s.latch.tmo.finite = true ∨ 4 ≤ s.rxQueue.length) :
    Host.Core.run Sys2Proof.core 2 s =
      .next (({ s with rxQueue := s.rxQueue.drop 4, waited := 0 } : State).send.await (s.rxQueue.take 4)) := by
  have hnone : s.nextInput = none := State.nextInput_none.2 ⟨hi, hf, by simp [State.timerArmed, hs, SeqState.reading]⟩
  have hst : ({ s with waited := 0 } : State).send.st = .awaiting := by
    rw [State.send_eq, Op.afterSend_eq, if_neg hop]
  rw [run_succ 1 (step_of_sending hs hnone)]
  refine run_succ 0 ((step_of_lastRead (.inl hst) hi hf hr).trans ?_)
  exact receiveStep_next.2 (.inl ⟨hst, rfl⟩)

/-- When the awaited code's frame is first in the queue, that read is its SUCCESS (R78 to R82). -/
theorem run_sendThenRead_expected {s : State} {a d : Byte} {q : List Byte} (hs : s.st = .sending)
    (hop : s.latch.op ≠ .discover) (hi : s.inputs = []) (hf : s.forever = [])
    (hq : s.rxQueue = s.latch.op.expect :: a :: d :: (s.latch.op.expect ^^^ a ^^^ d) :: q) :
    Host.Core.run Sys2Proof.core 2 s =
      .next { ({ s with rxQueue := q, waited := 0 } : State).send.recordFrame s.latch.op.expect a d with
        st := .success, result := if s.latch.op = .portRead then some d else s.result } := by
  rw [run_sendThenRead hs hop hi hf (.inr (by simp [hq])), hq]
  exact congrArg Host.Outcome.next (State.await_expected (s := ({ s with rxQueue := q, waited := 0 } : State).send) rfl a d)

/-- Settles O60: the line launches its operation, whose one read takes the accepted frame. -/
theorem commandLineSucceedsOnItsResponse : Obligations.CommandLineSucceedsOnItsResponse := by
  intro s c a d q hbusy hop hi hf hq
  have hend := run_sendThenRead_expected (s := s.launched c) rfl hop rfl hf hq
  exact ⟨_, (run_launch hbusy hi 2).trans hend, rfl, rfl, rfl, rfl, rfl, rfl, rfl⟩

end Sys2Proof.Machine
end

section
/-! PROOFS. The statements of 42_discovery.md: the request of DISCOVER, what the listen step makes of each read, and a
discovery end to end, on a chain that falls silent and on one that never does. -/

namespace Sys2Proof.Machine

/-! ### The request -/

/-- DISCOVER's latches build SETUP, whatever else they hold (R56, R90). -/
theorem Latch.request_of_discover {l : Latch} (h : l.op = .discover) :
    l.request = ⟨0x01#8, 0x01#8, 0x00#8, 0x00#8⟩ := by
  have hframe : packFrame 0x01#8 0x01#8 0x00#8 = ⟨0x01#8, 0x01#8, 0x00#8, 0x00#8⟩ := by decide
  rw [Latch.request, Latch.reqAddress, Latch.reqData, h]
  exact hframe

/-- Settles O23: SETUP is the request DISCOVER's latches build, whatever address they hold. -/
theorem setupIsSentToAddressOne : Obligations.SetupIsSentToAddressOne := by
  intro s hs hop
  have hrequest := Latch.request_of_discover hop
  rw [exec_classOf]
  refine sendStep_next.2 ⟨hs, hrequest.symm, ?_⟩
  rw [State.send_eq, hrequest, hop]
  rfl

/-! ### The listen step, read by read -/

/-- On an ANNOUNCE it reports the controller and listens on (R95). -/
theorem State.listen_announce (s : State) (a d : Byte) :
    s.listen [254, a, d, 254 ^^^ a ^^^ d] =
      { s.recordFrame 254 a d with st := .listening, reports := s.reports ++ [⟨a, d⟩] } :=
  (State.listen_valid s 254 a d).trans (if_pos rfl)

/-- On an ERROR it fails with CommandFailed (R96). -/
theorem State.listen_error (s : State) (a d : Byte) :
    s.listen [255, a, d, 255 ^^^ a ^^^ d] = { s.recordFrame 255 a d with err := .commandFailed, st := .failed } :=
  State.listen_valid s 255 a d

/-- On any other code it listens on (R97). -/
theorem State.listen_other {c : Byte} (hannounce : c ≠ 254) (herror : c ≠ 255) (s : State) (a d : Byte) :
    s.listen [c, a, d, c ^^^ a ^^^ d] = { s.recordFrame c a d with st := .listening } := by
  exact (State.listen_valid s c a d).trans ((if_neg hannounce).trans (if_neg herror))

/-- On a short read it is the record and SUCCESS (R93). -/
theorem State.listen_short {r : List Byte} (h : r.length < 4) (s : State) : s.listen r = (s.rxRead r).enter .success := by
  unfold State.listen
  rw [State.decodeRsp_short h, validate_short h]

/-- No operation accepts the code of ERROR (R60). -/
theorem Op.error_ne_expect (op : Op) : (255 : Byte) ≠ op.expect := by
  cases op <;> decide

/-- Settles O28: the read of an ANNOUNCE while DISCOVER listens. -/
theorem announceIsReported : Obligations.AnnounceIsReported := by
  intro s a d hs
  rw [exec_classOf]
  exact receiveStep_next.2 (.inr ⟨hs, (s.listen_announce a d).symm⟩)

/-- Settles O29: DISCOVER fails on the code, a single-shot operation because it is not the one it awaits. -/
theorem errorFrameFailsEveryOperation : Obligations.ErrorFrameFailsEveryOperation := by
  intro s a d hs
  rw [exec_classOf]
  rcases hs with hlisten | ⟨hawait, -⟩
  · exact receiveStep_next.2 (.inr ⟨hlisten, (s.listen_error a d).symm⟩)
  · exact receiveStep_next.2 (.inl ⟨hawait, (State.await_unexpected s.latch.op.error_ne_expect a d).symm⟩)

/-- Settles O30: the read takes the frame, and its code is neither of the two that DISCOVER looks for. -/
theorem otherCodeIsPassedThrough : Obligations.OtherCodeIsPassedThrough := by
  intro s c a d q hs hi hq hannounce herror
  rw [step_of_fullRead (.inr hs) hi hq]
  have hlisten := State.listen_other hannounce herror { s.consumed with rxQueue := q, waited := 0 } a d
  exact receiveStep_next.2 (.inr ⟨hs, hlisten.symm⟩)

section
variable {b0 b1 b2 b3 : Byte} (h : b3 ≠ b0 ^^^ b1 ^^^ b2)
include h

/-- DECODE of a frame whose checksum fails is its echo alone (R73, R74). -/
theorem State.decodeRsp_badChecksum (dbg : Bool) (s : State) :
    s.decodeRsp dbg [b0, b1, b2, b3] = s.echo dbg .rx ⟨b0, b1, b2, b3⟩ := by
  rw [State.decodeRsp, validate_invalid h]
  rfl

/-- Either step that reads it fails with CHECKSUM, and looks at nothing else (R80, R94). -/
theorem receiveStep_badChecksum {s : State} (hs : s.st = .awaiting ∨ s.st = .listening) :
    receiveStep [b0, b1, b2, b3] s =
      .next (((s.rxRead [b0, b1, b2, b3]).echo s.latch.dbg .rx ⟨b0, b1, b2, b3⟩).raise .checksum) := by
  rw [← State.decodeRsp_badChecksum h]
  rcases hs with hs | hs
  · exact receiveStep_next.2 (.inl ⟨hs, by rw [State.await, validate_invalid h]; rfl⟩)
  · exact receiveStep_next.2 (.inr ⟨hs, by rw [State.listen, validate_invalid h]⟩)

end

/-- Settles O31: the read takes the four bytes, and the failure entry is all that follows the echo. -/
theorem badChecksumFailsTheOperation : Obligations.BadChecksumFailsTheOperation := by
  intro s b0 b1 b2 b3 q hs hi hq hbad
  rw [step_of_fullRead hs hi hq]
  exact receiveStep_badChecksum (s := { s.consumed with rxQueue := q, waited := 0 }) hbad hs

/-- Settles O32: the read ends with the bytes that have arrived, which are the end of the chain. -/
theorem shortReadEndsDiscovery : Obligations.ShortReadEndsDiscovery := by
  intro s hs hq hi
  rw [step_of_endedRead (.inr hs) hi hq, ← rxRegsOf_short hq]
  exact receiveStep_next.2 (.inr ⟨hs, by rw [State.listen_short hq]; rfl⟩)

/-! ### A chain that falls silent -/

/-- Taking a move leaves the endless moves what they are; at most their turn changes (log 2). -/
theorem State.consumed_forever_perm (s : State) : s.consumed.forever.Perm s.forever := by
  rw [State.consumed]
  dsimp only
  split
  · cases s.forever with
    | nil => exact .nil
    | cons x rest => exact List.perm_append_singleton x rest
  · exact .refl _

/-- The steps that a DISCOVER listening to silence can still make: a round of the endless moves and a step for each whole
frame queued, and what is left of the round in progress with its step (R98; log 4). -/
def State.listenStepsLeft (s : State) : Nat :=
  s.rxQueue.length / 4 * (s.forever.length + 1) + (s.forever.length - s.waited) + 1

/-- These are one read for each whole frame queued and one more, each of at most one round and a step (R98). -/
theorem State.listenStepsLeft_le (s : State) :
    s.listenStepsLeft ≤ (s.rxQueue.length / 4 + 1) * (s.forever.length + 1) := by
  rw [State.listenStepsLeft, Nat.succ_mul]
  omega

section
variable {s t : State}

/-- The read of a whole frame leaves fewer, though a new round begins. -/
theorem State.listenStepsLeft_of_read (hfull : 4 ≤ s.rxQueue.length) (hqueue : t.rxQueue = s.rxQueue.drop 4)
    (hforever : t.forever.length = s.forever.length) (hwaited : t.waited = 0) :
    t.listenStepsLeft < s.listenStepsLeft := by
  have hframes : s.rxQueue.length / 4 = t.rxQueue.length / 4 + 1 := by
    rw [hqueue, List.length_drop]
    omega
  rw [State.listenStepsLeft, State.listenStepsLeft, hframes, hforever, hwaited, Nat.succ_mul]
  omega

/-- A move of the round in progress leaves one fewer. -/
theorem State.listenStepsLeft_of_wait (hturn : s.waited < s.forever.length) (hqueue : t.rxQueue = s.rxQueue)
    (hforever : t.forever.length = s.forever.length) (hwaited : t.waited = s.waited + 1) :
    t.listenStepsLeft < s.listenStepsLeft := by
  rw [State.listenStepsLeft, State.listenStepsLeft, hqueue, hforever, hwaited]
  omega

end

/-- DISCOVER listens on a silent chain: its timer runs, and the only moves that come are SEQ's and the host's polls of
`STATUS` (R98). -/
structure State.ListensInSilence (s : State) : Prop where
  listening : s.st = .listening
  timed : s.latch.tmo.finite = true
  noInputs : s.inputs = []
  silent : ∀ x ∈ s.forever, x = .seq ∨ x = .read 3

/-- It still does when nothing of that changed but the order of the endless moves. -/
theorem State.ListensInSilence.of_perm {s t : State} (h : s.ListensInSilence) (hst : t.st = .listening)
    (hlatch : t.latch = s.latch) (hinputs : t.inputs = s.inputs) (hforever : t.forever.Perm s.forever) :
    t.ListensInSilence :=
  ⟨hst, hlatch ▸ h.timed, hinputs.trans h.noInputs, fun x hx => h.silent x (hforever.mem_iff.1 hx)⟩

/-- With no move listed once, taking a move lists none (log 2). -/
theorem State.ListensInSilence.consumed_inputs {s : State} (h : s.ListensInSilence) : s.consumed.inputs = s.inputs := by
  simp [State.consumed, h.noInputs]

/-- The listen step on what a read takes from the queue ends DISCOVER, or there was a whole frame and it listens on (R98). -/
theorem State.listen_take_four (q : List Byte) (s : State) :
    (s.listen (q.take 4)).done = true ∨ ((s.listen (q.take 4)).st = .listening ∧ 4 ≤ q.length) := by
  have hlong {p : Response} (hp : validate (q.take 4) = .ok p) : 4 ≤ q.length := by
    rcases validate_take_cases q with ⟨-, hv⟩ | ⟨_, _, _, _, _, rfl, -⟩
    · rw [hv] at hp
      cases hp
    · simp
  rcases State.listen_cases (q.take 4) s with
    ⟨n, -, heq⟩ | ⟨f, -, heq⟩ | ⟨p, hp, -, heq⟩ | ⟨p, -, -, heq⟩ | ⟨p, hp, -, -, heq⟩ <;> rw [heq]
  · exact .inl rfl
  · exact .inl rfl
  · exact .inr ⟨rfl, hlong hp⟩
  · exact .inl rfl
  · exact .inr ⟨rfl, hlong hp⟩

/-- A poll of `STATUS` is answered in every state, and changes the host's record alone (R21, R122). -/
theorem step_of_statusRead {s : State} (hi : s.nextInput = some (.read 3)) :
    step s = .next { s.consumed with hostReads := s.hostReads ++ [(3, s.statusByte)] } :=
  (step_of_read hi).trans (hostRead_of_value (State.reg_status _))

/-- A step in silence reads, or it is a move of the round in progress that changes the host's record alone (R40, R98). -/
theorem step_of_silence {s : State} (h : s.ListensInSilence) :
    step s = .next (s.readTaken.listen (s.rxQueue.take 4)) ∨
    (s.waited < s.forever.length ∧ s.consumed.waited = s.waited + 1 ∧
      ∃ reads, step s = .next { s.consumed with hostReads := reads }) := by
  have hread : receiveStep (s.rxQueue.take 4) s.readTaken = .next (s.readTaken.listen (s.rxQueue.take 4)) :=
    receiveStep_next.2 (.inr ⟨h.listening, rfl⟩)
  have harmed : s.timerArmed = true := by rw [State.timerArmed, h.listening, h.timed]; rfl
  by_cases hturn : s.forever.length ≤ s.waited
  · have hdue := State.timerDue_iff.2 ⟨h.noInputs, harmed, hturn⟩
    left
    rw [step_of_timerDue hdue, ← hread, State.readTaken, (State.consumed_of_timerDue hdue).2]
  · have hdue : s.timerDue = false := by simpa [State.timerDue, h.noInputs, harmed] using hturn
    obtain ⟨x, rest, hf⟩ := List.exists_cons_of_length_pos (Nat.zero_lt_of_lt (Nat.lt_of_not_le hturn))
    obtain ⟨hi, htaken⟩ := State.consumed_of_forever h.noInputs hf hdue
    have hwaited : s.consumed.waited = s.waited + 1 := by rw [htaken]
    rcases h.silent x (by simp [hf]) with rfl | rfl
    · rw [step_of_seqTurn (.inl hi), seqMove_of_reading (s := s.consumed) (SeqState.reading_iff.2 (.inr h.listening)),
        deliver_outcome]
      split
      · exact .inl hread
      · exact .inr ⟨Nat.lt_of_not_le hturn, hwaited, _, rfl⟩
    · exact .inr ⟨Nat.lt_of_not_le hturn, hwaited, _, step_of_statusRead hi⟩

/-- A step in silence ends DISCOVER, or leaves it listening with fewer steps to make (R98). -/
theorem step_of_silence_progress {s : State} (h : s.ListensInSilence) : ∃ t, step s = .next t ∧
    (t.done = true ∨ (t.ListensInSilence ∧ t.listenStepsLeft < s.listenStepsLeft)) := by
  have hforever := s.consumed_forever_perm
  rcases step_of_silence h with hstep | ⟨hturn, hwaited, reads, hstep⟩
  · refine ⟨_, hstep, (State.listen_take_four s.rxQueue s.readTaken).imp_right fun ⟨hst, hfull⟩ => ?_⟩
    rw [State.listen_eq, hst]
    exact ⟨h.of_perm rfl (by simp) (by simp [h.consumed_inputs]) (by simpa using hforever),
      State.listenStepsLeft_of_read hfull (by simp) (by simpa using hforever.length_eq) (by simp)⟩
  · exact ⟨_, hstep, .inr ⟨h.of_perm h.listening rfl h.consumed_inputs hforever,
      State.listenStepsLeft_of_wait hturn rfl hforever.length_eq hwaited⟩⟩

/-- A DISCOVER that listens to silence ends within the steps it has left. -/
theorem run_silence_ends {n : Nat} {s : State} (h : s.ListensInSilence) (hn : s.listenStepsLeft ≤ n) :
    ∃ k ≤ n, ∃ t : State, Host.Core.run Sys2Proof.core k s = .next t ∧ t.done = true := by
  induction n generalizing s with
  | zero => simp [State.listenStepsLeft] at hn
  | succ n ih =>
    obtain ⟨t, hstep, hend | ⟨ht, hless⟩⟩ := step_of_silence_progress h
    · exact ⟨1, by omega, t, run_succ 0 hstep, hend⟩
    · obtain ⟨k, hk, u, hrun, hu⟩ := ih ht (by omega)
      exact ⟨k + 1, by omega, u, (run_succ k hstep).trans hrun, hu⟩

/-! ### `init` launched with no other moves -/

/-- `s` after the three register writes of a command line and its send step (R67, R90). -/
def State.discovering (c : CliLine) (s : State) : State := { s.launched c with waited := 0 : State }.send

section
variable {s : State} {c : CliLine} (hf : s.forever = [])
include hf

/-- Any command line comes to its send step in three steps while no operation runs, and makes it in the fourth (R31, R67). -/
theorem run_launch_send (hbusy : s.busy = false) (hi : s.inputs = c.expand) (n : Nat) :
    Host.Core.run Sys2Proof.core (n + 4) s = Host.Core.run Sys2Proof.core n (s.discovering c) := by
  have hnone : (s.launched c).nextInput = none := State.nextInput_none.2 ⟨rfl, hf, rfl⟩
  rw [run_launch hbusy hi (n + 1)]
  exact run_succ n (step_of_sending rfl hnone)

/-- `init` then listens, with DISCOVER's finite timeout latched, and in silence (R90, R91). -/
theorem State.discovering_listensInSilence (hc : c.command = .init) : (s.discovering c).ListensInSilence where
  listening := congrArg (Op.afterSend ∘ CliCommand.op) hc
  timed := by
    change (effectiveTimeout c.timeout c.command.op).finite = true
    rw [hc]
    exact effectiveTimeout_discover_finite _
  noInputs := rfl
  silent := by
    change ∀ x ∈ s.forever, _
    simp [hf]

end

/-- At a clean launch no operation runs (R123). -/
theorem State.clean.notBusy {s : State} (h : s.clean) : s.busy = false := by
  rw [State.busy]
  rcases h with hreset | hs | hs
  · rw [show s.st = .idle from congrArg State.st hreset]
    rfl
  · rw [hs]
    rfl
  · rw [hs]
    rfl

/-- Settles O57: a DISCOVER in silence has so many steps left, and a launched `init` is one after four. -/
theorem discoveryEndsWhenTheChainFallsSilent : Obligations.DiscoveryEndsWhenTheChainFallsSilent := by
  refine ⟨fun s hs htmo hi hsilent => run_silence_ends ⟨hs, htmo, hi, hsilent⟩ s.listenStepsLeft_le, ?_⟩
  intro before s c hlaunch hc hi hf
  have hleft : (s.discovering c).listenStepsLeft ≤ s.rxQueue.length / 4 + 1 := by
    simpa [State.discovering, State.launched, State.send_eq, hf] using (s.discovering c).listenStepsLeft_le
  obtain ⟨k, hk, t, hrun, ht⟩ := run_silence_ends (State.discovering_listensInSilence hf hc) hleft
  exact ⟨k + 4, by omega, t, (run_launch_send hf hlaunch.clean.notBusy hi k).trans hrun, ht⟩

/-! ### The whole chain -/

/-- The ANNOUNCE frame of a controller (R60, R95). -/
def Report.announcement (p : Report) : List Byte := [254, p.addr, p.fw, 254 ^^^ p.addr ^^^ p.fw]

/-- With no endless moves DISCOVER's next step in silence is its next read (R92; log 4). -/
theorem step_of_silence_read {s : State} (h : s.ListensInSilence) (hf : s.forever = []) :
    step s = .next (({ s with rxQueue := s.rxQueue.drop 4, waited := 0 } : State).listen (s.rxQueue.take 4)) :=
  (step_of_lastRead (.inr h.listening) h.noInputs hf (.inl h.timed)).trans (receiveStep_next.2 (.inr ⟨h.listening, rfl⟩))

/-- `s` with the ANNOUNCE frame of a controller read and reported, and `q` left in the queue (R95). -/
def State.announced (p : Report) (q : List Byte) (s : State) : State :=
  { ({ s with rxQueue := q, waited := 0 } : State).recordFrame 254 p.addr p.fw with
    st := .listening, reports := s.reports ++ [p] }

/-- With that frame first in the queue the read takes it, and DISCOVER still listens in silence (R95). -/
theorem step_of_silence_announce {s : State} {p : Report} {q : List Byte} (h : s.ListensInSilence) (hf : s.forever = [])
    (hq : s.rxQueue = p.announcement ++ q) :
    step s = .next (s.announced p q) ∧ (s.announced p q).ListensInSilence := by
  refine ⟨?_, h.of_perm rfl rfl rfl (.refl _)⟩
  rw [step_of_silence_read h hf, hq]
  exact congrArg _ (State.listen_announce _ p.addr p.fw)

/-- With the chain's ANNOUNCE frames queued and nothing else, DISCOVER reports them one by one and then ends (R93, R95). -/
theorem run_wholeChain (found : List Report) {s : State} (h : s.ListensInSilence) (hf : s.forever = [])
    (hq : s.rxQueue = found.flatMap Report.announcement) :
    ∃ t : State, Host.Core.run Sys2Proof.core (found.length + 1) s = .next t ∧ t.st = .success ∧ t.err = s.err ∧
      t.reports = s.reports ++ found ∧ t.txlog = s.txlog ∧ t.rxQueue = [] ∧ t.result = s.result := by
  induction found generalizing s with
  | nil =>
    have hstep := step_of_silence_read h hf
    rw [hq, List.flatMap_nil, List.take_nil, List.drop_nil, State.listen_short (by decide)] at hstep
    exact ⟨_, run_succ 0 hstep, rfl, rfl, (List.append_nil _).symm, rfl, rfl, rfl⟩
  | cons p found ih =>
    obtain ⟨hstep, hsilent⟩ := step_of_silence_announce h hf (hq.trans List.flatMap_cons)
    obtain ⟨t, hrun, hst, herr, hreports, hrest⟩ := ih hsilent hf rfl
    refine ⟨t, (run_succ _ hstep).trans hrun, hst, herr, ?_, hrest⟩
    rw [hreports, State.announced, List.append_assoc, List.singleton_append]

/-- Settles O59: `init` listens after four steps with nothing reported yet, and reads what the chain answered. -/
theorem discoveryReportsTheWholeChain : Obligations.DiscoveryReportsTheWholeChain := by
  intro s c found hbusy hc hi hf hq
  obtain ⟨t, hrun, hst, herr, hreports, htxlog, hqueue, hresult⟩ :=
    run_wholeChain found (State.discovering_listensInSilence hf hc) hf hq
  have hrequest : (s.launched c).latch.request = ⟨0x01, 0x01, 0x00, 0x00⟩ :=
    Latch.request_of_discover (congrArg CliCommand.op hc)
  refine ⟨t, (run_launch_send hf hbusy hi (found.length + 1)).trans hrun, hst, herr, hreports, ?_, hqueue, hresult⟩
  exact htxlog.trans (congrArg (s.txlog ++ [·]) hrequest)

/-! ### A chain that never falls silent -/

/-- What `n` frames of code `c` add to REPORTS: an ANNOUNCE is reported, no other frame is (R95, R97). -/
def reportsOf (c a d : Byte) (n : Nat) : List Report := if c = 254 then List.replicate n ⟨a, d⟩ else []

/-- One frame and `n` more. -/
theorem reportsOf_succ (c a d : Byte) (n : Nat) : reportsOf c a d (n + 1) = reportsOf c a d 1 ++ reportsOf c a d n := by
  unfold reportsOf
  split <;> rfl

/-- On a valid frame that is no ERROR DISCOVER listens on (R95, R97). -/
theorem State.listen_notError {c : Byte} (h : c ≠ 255) (s : State) (a d : Byte) :
    s.listen [c, a, d, c ^^^ a ^^^ d] =
      { s.recordFrame c a d with st := .listening, reports := s.reports ++ reportsOf c a d 1 } := by
  by_cases hc : c = 254
  · subst hc
    exact s.listen_announce a d
  · rw [State.listen_other hc h, reportsOf, if_neg hc, List.append_nil]
    rfl

/-- DISCOVER listens while `moves` come without end, `waited` of them since its read began, and `queue` is queued. -/
structure State.Hears (moves : List Input) (waited : Nat) (queue : List Byte) (s : State) : Prop where
  listening : s.st = .listening
  noInputs : s.inputs = []
  endless : s.forever = moves
  waiting : s.waited = waited
  queued : s.rxQueue = queue

/-- While the round of a read is not over, the first endless move comes (log 2, log 4). -/
theorem State.Hears.consumed {x : Input} {rest : List Input} {w : Nat} {queue : List Byte} {s : State}
    (h : s.Hears (x :: rest) w queue) (hw : w < (x :: rest).length) :
    s.nextInput = some x ∧ s.consumed.Hears (rest ++ [x]) (w + 1) queue := by
  obtain ⟨hst, hinputs, hforever, rfl, hqueue⟩ := h
  have hdue : s.timerDue = false := by
    rw [← Bool.not_eq_true, State.timerDue_iff, hforever]
    omega
  obtain ⟨hnext, htaken⟩ := State.consumed_of_forever hinputs hforever hdue
  exact ⟨hnext, htaken ▸ ⟨hst, hinputs, rfl, rfl, hqueue⟩⟩

/-- A round of the chain's endless frame begins: nothing is queued, and the frame is about to arrive (R98, log 2). -/
abbrev State.AwaitsFrame (c a d : Byte) (s : State) : Prop :=
  s.Hears [.arrive [c, a, d, c ^^^ a ^^^ d], .seq] 0 []

/-- The frame has arrived, and SEQ is about to read it. -/
abbrev State.HoldsFrame (c a d : Byte) (s : State) : Prop :=
  s.Hears [.seq, .arrive [c, a, d, c ^^^ a ^^^ d]] 1 [c, a, d, c ^^^ a ^^^ d]

section
variable {c a d : Byte} {s : State}

/-- The frame arrives (R42). -/
theorem step_of_awaitsFrame (h : s.AwaitsFrame c a d) :
    ∃ t, step s = .next t ∧ t.HoldsFrame c a d ∧ t.reports = s.reports := by
  obtain ⟨hnext, htaken⟩ := h.consumed Nat.two_pos
  exact ⟨_, step_of_input hnext, { htaken with queued := congrArg (· ++ _) htaken.queued }, rfl⟩

/-- The frame is read, before the timer's end is due; unless it is an ERROR the next round begins (R40, R95, R97; log 4). -/
theorem step_of_holdsFrame (h : s.HoldsFrame c a d) (hc : c ≠ 255) :
    ∃ t, step s = .next t ∧ t.AwaitsFrame c a d ∧ t.reports = s.reports ++ reportsOf c a d 1 := by
  obtain ⟨hnext, htaken⟩ := h.consumed Nat.one_lt_two
  have hstep := step_of_fullRead (.inr h.listening) hnext h.queued
  refine ⟨_, hstep.trans (receiveStep_next.2 (.inr ⟨h.listening, rfl⟩)), ?_, ?_⟩ <;> rw [State.listen_notError hc]
  · exact ⟨rfl, htaken.noInputs, htaken.endless, rfl, rfl⟩
  · rfl

/-- However long it goes on, DISCOVER listens, and has reported the frame once a round if it is an ANNOUNCE (R98). -/
theorem run_endless (hc : c ≠ 255) (h : s.AwaitsFrame c a d) (n : Nat) :
    ∃ t : State, Host.Core.run Sys2Proof.core n s = .next t ∧ t.st = .listening ∧
      t.reports = s.reports ++ reportsOf c a d (n / 2) := by
  obtain ⟨u, harrive, hu, hkept⟩ := step_of_awaitsFrame h
  induction n using Nat.twoStepInduction generalizing s u with
  | zero => exact ⟨s, run_zero s, h.listening, by simp [reportsOf]⟩
  | one => exact ⟨u, run_succ 0 harrive, hu.listening, by simp [hkept, reportsOf]⟩
  | more n ih _ =>
    obtain ⟨v, hread, hv, hreported⟩ := step_of_holdsFrame hu hc
    obtain ⟨w, harrive', hw, hkept'⟩ := step_of_awaitsFrame hv
    obtain ⟨t, hrun, ht, hreports⟩ := ih hv w harrive' hw hkept'
    refine ⟨t, ((run_succ _ harrive).trans (run_succ n hread)).trans hrun, ht, ?_⟩
    rw [hreports, hreported, hkept, List.append_assoc, ← reportsOf_succ, Nat.add_div_right n Nat.two_pos]

end

/-- The send step when SEQ's turn is the next listed move (R79, R90). -/
theorem step_of_sendTurn {s : State} {rest : List Input} (hs : s.st = .sending) (hi : s.inputs = .seq :: rest) :
    step s = .next ({ s with inputs := rest, waited := 0 } : State).send := by
  obtain ⟨hnext, htaken⟩ := State.consumed_of_cons hi
  rw [step_of_seqTurn (.inl hnext), seqMove_of_sending (s := s.consumed) hs, htaken]

/-- `s` after a START of DISCOVER without options and its send step (R31, R90). -/
def State.discoverSent (s : State) : State :=
  { (({ s with inputs := [] } : State).writeCtrl Op.discover.code false false).startOp .discover with waited := 0 : State }.send

/-- With these two moves listed the machine comes to it while no operation runs (R31, R90). -/
theorem run_discoverSent {s : State} (hbusy : s.busy = false) (hi : s.inputs = [.write 0x00#8 0x80#8, .seq]) (n : Nat) :
    Host.Core.run Sys2Proof.core (n + 2) s = Host.Core.run Sys2Proof.core n s.discoverSent := by
  have hbyte : hostByte Op.discover.code 0#2 false false = 0x80#8 := by decide
  rw [run_succ (n + 1) (step_of_startCommand hbusy (hbyte ▸ hi))]
  exact run_succ n (step_of_sendTurn rfl rfl)

/-- Settles O58: after the START and the send step the first round begins, with nothing reported yet. -/
theorem discoveryHasNoBound : Obligations.DiscoveryHasNoBound := by
  intro s c a d hbusy hq hc hi hf n
  have hround : s.discoverSent.AwaitsFrame c a d := ⟨rfl, rfl, hf, rfl, hq⟩
  rw [run_discoverSent hbusy hi]
  exact run_endless hc hround n

end Sys2Proof.Machine
end

section
/-! PROOFS. The statements of 60_exceptions.md: the order of the checks of a single-shot read, what IDLE, SUCCESS and FAILED
hold, and what `L_DBG` changes. -/

namespace Sys2Proof.Machine

/-! ### The order of the checks -/

/-- How the receive step ends: length first, then checksum, then code (R72, R74, R81, R102). -/
theorem State.await_order (r : List Byte) (s : State) :
    (r.length ≠ 4 ∧ (s.await r).err = .length ∧ (s.await r).st = .failed) ∨
    (∃ b0 b1 b2 b3, r = [b0, b1, b2, b3] ∧
      ((b3 ≠ b0 ^^^ b1 ^^^ b2 ∧ (s.await r).err = .checksum ∧ (s.await r).st = .failed) ∨
       (b3 = b0 ^^^ b1 ^^^ b2 ∧ b0 ≠ s.latch.op.expect ∧
        (s.await r).err = .commandFailed ∧ (s.await r).st = .failed) ∨
       (b3 = b0 ^^^ b1 ^^^ b2 ∧ b0 = s.latch.op.expect ∧
        (s.await r).err = s.err ∧ (s.await r).st = .success))) := by
  unfold State.await
  rcases validate_cases r with ⟨hlen, hv⟩ | ⟨b0, b1, b2, b3, rfl, hk, hv⟩ | ⟨b0, b1, b2, rfl, hv⟩ <;> rw [hv]
  · exact .inl ⟨hlen, rfl, rfl⟩
  · exact .inr ⟨b0, b1, b2, b3, rfl, .inl ⟨hk, rfl, rfl⟩⟩
  · refine .inr ⟨b0, b1, b2, _, rfl, .inr ?_⟩
    by_cases hcode : b0 = s.latch.op.expect
    · exact .inr ⟨rfl, hcode, by simp [hcode, State.succeed_st_err]⟩
    · exact .inl ⟨rfl, hcode, by simp [hcode]⟩

/-- Settles O34: each way the receive step ends excludes the others, so its error tells which check failed first. -/
theorem checksRunInPriorityOrder : Obligations.ChecksRunInPriorityOrder := by
  intro s t r hs herr hstep
  obtain ⟨-, rfl⟩ | ⟨hlisten, -⟩ := receiveStep_next.1 hstep
  · simp only [ne_eq, ← eq_xor_iff_xor_eq_zero]
    rcases State.await_order r s with ⟨hlen, he, hst⟩ |
        ⟨b0, b1, b2, b3, rfl, ⟨hk, he, hst⟩ | ⟨rfl, hcode, he, hst⟩ | ⟨rfl, hcode, he, hst⟩⟩ <;> rw [he, hst]
    · have hnot : ∀ b0 b1 b2 b3, r ≠ [b0, b1, b2, b3] := by
        rintro _ _ _ _ rfl
        exact hlen rfl
      simp [hlen, hnot]
    · simp [hk]
    · simp [hcode]
    · simp [hcode, herr]
  · cases hs.symm.trans hlisten

/-! ### IDLE, SUCCESS and FAILED -/

/-- Outside AWAITING and LISTENING a read's step is refused (R42, R103; log 1). -/
theorem receiveStep_of_noRead {r : List Byte} {s : State} (ha : s.st ≠ .awaiting) (hl : s.st ≠ .listening) :
    receiveStep r s = .refused .noReadInProgress := by
  unfold receiveStep
  cases hs : s.st
  case awaiting => exact absurd hs ha
  case listening => exact absurd hs hl
  all_goals rfl

/-- Settles O35: a response is the step of a read, and none is in progress. -/
theorem responseStopsWithoutARead : Obligations.ResponseStopsWithoutARead := by
  intro i s hformat ha hl
  obtain ⟨f, hclass⟩ := classOf_rsp hformat
  rw [exec_classOf, hclass]
  exact receiveStep_of_noRead ha hl

/-- In IDLE, SUCCESS and FAILED the block is neither busy nor reading (R21, R80, R92). -/
theorem SeqState.busy_reading_of_ended {q : SeqState} (h : q = .idle ∨ q = .success ∨ q = .failed) :
    q.busy = false ∧ q.reading = false := by
  rcases h with rfl | rfl | rfl <;> exact ⟨rfl, rfl⟩

/-- Settles O40: SEQ has no step to take, and there is no read for a timer's end or a disconnect to end. -/
theorem idleAndEndedTakeNoStep : Obligations.IdleAndEndedTakeNoStep := by
  intro s hs
  have hreading : s.consumed.st.reading = false := (SeqState.busy_reading_of_ended hs).2
  refine ⟨?_, State.consumed_of_none, fun bs hi => step_of_input hi, fun hi => step_of_input hi⟩
  rintro (hi | hi | hi | hi)
  · rw [step_of_seqTurn (.inr hi), seqMove_of_notBusy (s := s.consumed) hs]
  · rw [step_of_seqTurn (.inl hi), seqMove_of_notBusy (s := s.consumed) hs]
  · rw [step_of_input hi, inputMove, State.timerArmed, hreading]
    rfl
  · rw [step_of_input hi, inputMove, hreading]
    rfl

/-- `t` holds what `s` holds in the block, but that a host write may have reached CTRL, ADDR and ARG (R103, R110). -/
def State.HeldBy (s t : State) : Prop :=
  t.st = s.st ∧ t.err = s.err ∧ t.result = s.result ∧ t.rsp = s.rsp ∧ t.rx = s.rx ∧ t.tx = s.tx ∧
  t.latch = s.latch ∧ t.reports = s.reports ∧ t.echoes = s.echoes ∧ t.txlog = s.txlog ∧ t.rxlog = s.rxlog ∧
  ((t.ctrl = s.ctrl ∧ t.addr = s.addr ∧ t.arg = s.arg) ∨ ∃ i v, s.nextInput = some (.write i v))

/-- A step that changes the queue, the moves and the host's record alone holds all of it. -/
theorem State.HeldBy.of_sameBlock {s t : State} (ht : t = { s with
      rxQueue := t.rxQueue, inputs := t.inputs, forever := t.forever, waited := t.waited
      hostReads := t.hostReads, draws := t.draws }) : s.HeldBy t := by
  rw [ht]
  exact ⟨rfl, rfl, rfl, rfl, rfl, rfl, rfl, rfl, rfl, rfl, rfl, .inl ⟨rfl, rfl, rfl⟩⟩

/-- Settles O47: of the kinds of step the send and the two reads need a busy state, and all but START and reset hold. -/
theorem endedOperationHoldsItsResults : Obligations.EndedOperationHoldsItsResults := by
  intro s t hs hstep
  change s.HeldBy t ∨ _
  obtain ⟨hbusy, hreading⟩ := SeqState.busy_reading_of_ended hs
  cases step_cases hstep with
  | wait ht => exact .inl (.of_sameBlock (by rw [ht]; rfl))
  | start op v tmoen dbg ht _ hi hv => exact .inr (.inl ⟨ht ▸ rfl, v, hi, hv⟩)
  | send hsend => simp [hsend, SeqState.busy] at hbusy
  | await hawait => simp [hawait, SeqState.reading] at hreading
  | listen hlisten => simp [hlisten, SeqState.reading] at hreading
  | read i v ht => exact .inl (.of_sameBlock (by rw [ht]; rfl))
  | write i v c a g ht hi =>
    rw [ht]
    exact .inl ⟨rfl, rfl, rfl, rfl, rfl, rfl, rfl, rfl, rfl, rfl, rfl, .inr ⟨i, v, hi⟩⟩
  | reset ht hi => exact .inr (.inr ⟨ht ▸ rfl, hi⟩)
  | arrive bs ht => exact .inl (.of_sameBlock (by rw [ht]; rfl))
  | arriveAny ht => exact .inl (.of_sameBlock (by rw [ht]; rfl))

/-! ### `L_DBG` changes nothing but ECHOES (R109) -/

section
variable (b : Bool)

@[simp] theorem State.withDbg_st (s : State) : (s.withDbg b).st = s.st := rfl
@[simp] theorem State.withDbg_op (s : State) : (s.withDbg b).latch.op = s.latch.op := rfl
@[simp] theorem State.withDbg_consumed (s : State) : (s.withDbg b).consumed = s.consumed.withDbg b := rfl

/-- The record of a read differs in its echo alone (R71, R73). -/
theorem State.recordRead_withDbg (r : List Byte) (s : State) :
    (((s.withDbg b).rxRead r).decodeRsp b r).butEchoes = ((s.rxRead r).decodeRsp s.latch.dbg r).butEchoes := by
  unfold State.decodeRsp State.echoRead
  split <;> split <;> rfl

/-- Success of a single-shot operation does not see ECHOES (R81). -/
theorem State.succeed_butEchoes (p : Response) (s : State) : (s.succeed p).butEchoes = s.butEchoes.succeed p := by
  rw [State.succeed_eq, State.succeed_eq]
  rfl

/-- So the receive step differs in it alone (R80, R81). -/
theorem State.await_withDbg (r : List Byte) (s : State) :
    ((s.withDbg b).await r).butEchoes = (s.await r).butEchoes := by
  have hrecord := State.recordRead_withDbg b r s
  unfold State.await
  cases validate r with
  | error e => exact congrArg (State.raise e.kind) hrecord
  | ok p =>
    dsimp only
    rw [State.withDbg_op]
    split
    · rw [State.succeed_butEchoes, State.succeed_butEchoes]
      exact congrArg (State.succeed p) hrecord
    · exact congrArg (State.raise .commandFailed) hrecord

/-- And so does the listen step (R92 to R97). -/
theorem State.listen_withDbg (r : List Byte) (s : State) :
    ((s.withDbg b).listen r).butEchoes = (s.listen r).butEchoes := by
  have hrecord := State.recordRead_withDbg b r s
  unfold State.listen
  dsimp only
  split
  · exact congrArg (State.enter _) hrecord
  · exact congrArg (State.raise _) hrecord
  · next p _ =>
    split
    · exact congrArg (fun t => (t.report p.addr p.data).enter .listening) hrecord
    · split
      · exact congrArg (State.raise _) hrecord
      · exact congrArg (State.enter _) hrecord

/-- A read's step, whichever it is. -/
theorem receiveStep_withDbg (r : List Byte) (s : State) :
    mapNext State.butEchoes (receiveStep r (s.withDbg b)) = mapNext State.butEchoes (receiveStep r s) := by
  unfold receiveStep
  rw [State.withDbg_st]
  cases s.st
  case awaiting => exact congrArg Host.Outcome.next (State.await_withDbg b r s)
  case listening => exact congrArg Host.Outcome.next (State.listen_withDbg b r s)
  all_goals rfl

/-- A read in progress returns alike (R40). -/
theorem deliver_withDbg (s : State) :
    mapNext State.butEchoes (deliver (s.withDbg b)).outcome = mapNext State.butEchoes (deliver s).outcome := by
  rw [deliver_outcome, deliver_outcome]
  exact receiveStep_withDbg b (s.rxQueue.take 4) { s with rxQueue := s.rxQueue.drop 4, waited := 0 }

/-- A timer's end or a disconnect ends a read, or finds none to end, alike (R40, R106). -/
theorem endRead_withDbg (ends : Bool) (s : State) :
    mapNext State.butEchoes (if ends then deliver (s.withDbg b) else .done (.next (s.withDbg b))).outcome =
      mapNext State.butEchoes (if ends then deliver s else .done (.next s)).outcome := by
  cases ends
  · rfl
  · exact deliver_withDbg b s

/-- SEQ moves alike: the request it sends does not hang on `L_DBG`, only its echo does (R56, R70). -/
theorem seqMove_withDbg (s : State) :
    mapNext State.butEchoes (seqMove (s.withDbg b)).outcome = mapNext State.butEchoes (seqMove s).outcome := by
  rcases s.st.move_cases with hs | hs | hs
  · rw [seqMove_of_notBusy hs, seqMove_of_notBusy (s := s.withDbg b) hs]
    rfl
  · rw [seqMove_of_sending hs, seqMove_of_sending (s := s.withDbg b) hs]
    rfl
  · rw [seqMove_of_reading hs, seqMove_of_reading (s := s.withDbg b) hs]
    by_cases hq : 4 ≤ s.rxQueue.length
    · rw [if_pos hq, if_pos (by exact hq)]
      exact deliver_withDbg b s
    · rw [if_neg hq, if_neg (by exact hq)]
      rfl

/-- A START writes `L_DBG` without reading it, and any other host write leaves it (R30, R31). -/
theorem writeMove_withDbg (i v : Byte) (s : State) :
    mapNext State.butEchoes (writeMove i v (s.withDbg b)).outcome =
      mapNext State.butEchoes (writeMove i v s).outcome := by
  unfold writeMove
  split
  · split
    · next i hd =>
      obtain ⟨op, hclass⟩ := classOf_decodeHost hd
      rw [Move.outcome, Move.outcome, exec_classOf, exec_classOf, hclass]
      rfl
    · rfl
  · rw [Move.outcome, Move.outcome, hostWrite, hostWrite]
    split_ifs <;> rfl

/-- A host read does not see it: it is no register (R17, R30). -/
theorem hostRead_withDbg (i : Byte) (s : State) :
    mapNext State.butEchoes (hostRead i (s.withDbg b)) = mapNext State.butEchoes (hostRead i s) := by
  have hreg : (s.withDbg b).reg i = s.reg i := rfl
  rw [hostRead, hostRead, hreg]
  cases s.reg i <;> rfl

/-- Every listed move is made alike. -/
theorem inputMove_withDbg (x : Input) (s : State) :
    mapNext State.butEchoes (inputMove x (s.withDbg b)).outcome = mapNext State.butEchoes (inputMove x s).outcome := by
  cases x with
  | write i v => exact writeMove_withDbg b i v s
  | read i => exact hostRead_withDbg b i s
  | reset => rfl
  | arrive bs => rfl
  | arriveAny => rfl
  | expire => exact endRead_withDbg b s.timerArmed s
  | disconnect => exact endRead_withDbg b s.st.reading s
  | seq => exact seqMove_withDbg b s

/-- And so every step is. -/
theorem step_withDbg (s : State) :
    mapNext State.butEchoes (step (s.withDbg b)) = mapNext State.butEchoes (step s) := by
  cases hi : s.nextInput with
  | none =>
    rw [step_of_noInput hi, step_of_noInput (s := s.withDbg b) hi]
    exact seqMove_withDbg b s
  | some x =>
    rw [step_of_input hi, step_of_input (s := s.withDbg b) hi, State.withDbg_consumed]
    exact inputMove_withDbg b x s.consumed

end

/-- With `L_DBG = 0` no step but a reset writes ECHOES: the send step and DECODE do not echo then (R70, R73). -/
theorem step_echoes_silent {s t : State} (hdbg : s.latch.dbg = false) (hstep : step s = .next t)
    (hreset : s.nextInput ≠ some .reset) : t.echoes = s.echoes := by
  cases step_block hstep with
  | kept ht => rw [ht]
  | start op tmoen dbg ht => exact ht ▸ rfl
  | send hs ht => simp [ht, State.send_eq, hdbg]
  | await hs ht =>
    rw [ht, State.await_eq]
    exact State.decodeRsp_echoes_silent hdbg _ _
  | listen hs ht =>
    rw [ht, State.listen_eq]
    exact State.decodeRsp_echoes_silent hdbg _ _
  | reset ht hi => exact absurd hi hreset

/-- Settles O54: the two runs step alike, and without `L_DBG` nothing is echoed. -/
theorem debugChangesOnlyEchoes : Obligations.DebugChangesOnlyEchoes :=
  ⟨fun s b => step_withDbg b s, fun _ _ => step_echoes_silent⟩

end Sys2Proof.Machine
end

section
/-! PROOFS. The statements of 70_reset_and_hazards.md: a host reset, a START while BUSY, the read that waits for ever, and
the read whose timer runs. -/

namespace Sys2Proof.Machine

/-! ### Reset, and START while BUSY -/

/-- Every piece of FCS state takes its reset value (R111). -/
theorem State.resetBy_atReset (s : State) : s.resetBy.atReset := rfl

/-- A reset with no operation running leaves the transport's queue (R42; log 9). -/
theorem State.resetBy_rxQueue {s : State} (h : s.busy = false) : s.resetBy.rxQueue = s.rxQueue := by
  simp [State.resetBy, h]

/-- Settles O2: the step is the reset of the state with its move taken. -/
theorem hostResetRestoresResetState : Obligations.HostResetRestoresResetState :=
  fun s hi => ⟨s.consumed.resetBy, step_of_input hi, s.consumed.resetBy_atReset, rfl, rfl, rfl,
    State.resetBy_rxQueue (s := s.consumed)⟩

/-- Settles O21: every start command is the START of an operation, which BUSY refuses. -/
theorem startWhileBusyIsRefused : Obligations.StartWhileBusyIsRefused := by
  intro i s hformat hs
  obtain ⟨op, tmoen, dbg, hclass⟩ := classOf_hostCmd hformat
  have hbusy : s.busy = true := by rcases hs with h | h | h <;> exact congrArg SeqState.busy h
  rw [exec_classOf, hclass]
  exact if_pos hbusy

/-! ### A read without a timeout -/

/-- A read in progress with fewer than four bytes queued waits when SEQ has its turn (R40; log 5). -/
theorem step_of_waitingRead {s : State} (hs : s.st.reading = true) (hq : s.rxQueue.length < 4)
    (hi : s.nextInput = some .seq ∨ s.nextInput = none) : step s = .next s.consumed := by
  rw [step_of_seqTurn hi, seqMove_of_reading (s := s.consumed) hs, if_neg]
  exact Nat.not_le_of_lt hq

/-- A timer that does not run ends nothing (R106). -/
theorem step_of_unarmedExpire {s : State} (harmed : s.timerArmed = false) (hi : s.nextInput = some .expire) :
    step s = .next s.consumed := by
  have hkept : s.consumed.timerArmed = false := harmed
  rw [step_of_input hi, inputMove, hkept]
  rfl

/-- With no timeout latched no timer runs (R40, R106). -/
theorem State.timerArmed_of_noTimeout {s : State} (h : s.latch.tmo = .none) : s.timerArmed = false := by
  simp [State.timerArmed, h, Timeout.finite]

/-- A state that a step answers with itself is answered so by any number of them. -/
theorem run_of_fixed {s : State} (h : step s = .next s) (n : Nat) : Host.Core.run Sys2Proof.core n s = .next s := by
  induction n with
  | zero => exact run_zero s
  | succ n ih => exact (run_succ n h).trans ih

/-- A single-shot read without a timeout hangs: too few bytes are queued, and the only moves that come are SEQ's and the
host's polls of `STATUS` (R115). -/
structure State.HangsPolled (s : State) : Prop where
  awaiting : s.st = .awaiting
  untimed : s.latch.tmo = .none
  short : s.rxQueue.length < 4
  noInputs : s.inputs = []
  polled : ∀ x ∈ s.forever, x = .seq ∨ x = .read 3

/-- Taking a move, and recording what a poll returned, leaves it hanging. -/
theorem State.HangsPolled.consumed {s : State} (h : s.HangsPolled) (reads : List (Byte × Byte)) :
    ({ s.consumed with hostReads := reads } : State).HangsPolled where
  awaiting := h.awaiting
  untimed := h.untimed
  short := h.short
  noInputs := congrArg List.tail h.noInputs
  polled x hx := h.polled x (s.consumed_forever_perm.mem_iff.1 hx)

/-- The next move then is an endless one, or there is none (R106; log 2). -/
theorem State.HangsPolled.nextInput {s : State} (h : s.HangsPolled) : s.nextInput = s.forever.head? := by
  have hdue := State.timerDue_of_unarmed (State.timerArmed_of_noTimeout h.untimed)
  simp [State.nextInput, h.noInputs, hdue]

/-- Each step of a hang changes the moves and the host's record alone (R115). -/
theorem step_of_hangsPolled {s : State} (h : s.HangsPolled) :
    ∃ reads, step s = .next { s.consumed with hostReads := reads } := by
  have hreading : s.st.reading = true := congrArg SeqState.reading h.awaiting
  cases hi : s.nextInput with
  | none => exact ⟨_, step_of_waitingRead hreading h.short (.inr hi)⟩
  | some x =>
    rcases h.polled x (List.mem_of_head? (h.nextInput.symm.trans hi)) with rfl | rfl
    · exact ⟨_, step_of_waitingRead hreading h.short (.inl hi)⟩
    · exact ⟨_, step_of_statusRead hi⟩

/-- However long it goes on, the machine awaits and no read returns (R115). -/
theorem run_of_hangsPolled (n : Nat) {s : State} (h : s.HangsPolled) :
    ∃ t : State, Host.Core.run Sys2Proof.core n s = .next t ∧ t.st = .awaiting ∧ t.rxlog = s.rxlog := by
  induction n generalizing s with
  | zero => exact ⟨s, run_zero s, h.awaiting, rfl⟩
  | succ n ih =>
    obtain ⟨reads, hstep⟩ := step_of_hangsPolled h
    obtain ⟨t, hrun, ht⟩ := ih (h.consumed reads)
    exact ⟨t, (run_succ n hstep).trans hrun, ht⟩

/-- Settles O55: SEQ waits, a poll leaves the block as it is, and the timer, which does not run, ends nothing. -/
theorem readWithoutTimeoutMayHang : Obligations.ReadWithoutTimeoutMayHang := by
  intro s hs htmo hq
  have hreading : s.st.reading = true := congrArg SeqState.reading hs
  refine ⟨fun hi => run_of_fixed ?_, fun hi hpolled n => run_of_hangsPolled n ⟨hs, htmo, hq, hi, hpolled⟩, ?_⟩
  · rw [step_of_waitingRead hreading hq (.inr hi), State.consumed_of_none hi]
  · rintro (hi | hi)
    · exact step_of_waitingRead hreading hq (.inl hi)
    · exact step_of_unarmedExpire (State.timerArmed_of_noTimeout htmo) hi

/-! ### What the host may do while BUSY -/

/-- CTRL, ADDR, ARG and STATUS always hold a value (R18 to R21). -/
theorem State.reg_not_unwritten {i : Byte} (h : i.toNat ≤ 3) (s : State) : s.reg i ≠ .unwritten := by
  unfold State.reg
  generalize i.toNat = n at h
  interval_cases n <;> exact nofun

/-- A move that R122 allows while BUSY = 1 neither faults nor is refused (R17, R29, R63, R113). -/
theorem step_of_allowed {s : State} {x : Input} (hi : s.nextInput = some x) (hx : x.allowedWhileBusy) :
    ∃ t, step s = .next t := by
  obtain ⟨hfault, hrefused⟩ := onlyHostAccessesStop s
  cases hstep : step s with
  | next t => exact ⟨t, rfl⟩
  | fault f =>
    obtain ⟨i, hread, hunwritten, -⟩ := hfault f hstep
    cases hi.symm.trans hread
    exact absurd hunwritten (State.reg_not_unwritten hx s)
  | refused r =>
    rcases hrefused r hstep with ⟨i, hread, hpast, -⟩ | ⟨i, v, hwrite, hpast, -⟩ | ⟨v, hwrite, hv, -⟩ | ⟨v, hwrite, hv, -⟩
    · cases hi.symm.trans hread
      have hindex : i.toNat ≤ 3 := hx
      omega
    · cases hi.symm.trans hwrite
      exact absurd hx.1 (Nat.not_le_of_lt hpast)
    · cases hi.symm.trans hwrite
      exact absurd ((hx.2 rfl).symm.trans hv) nofun
    · cases hi.symm.trans hwrite
      exact absurd ((hx.2 rfl).symm.trans hv) nofun

/-! ### A read whose timer runs -/

/-- From `s` to `t` the read in progress goes on: a move is taken, and only the queue, the host's registers and record, and
the count of free values may change (R40, R122). -/
def State.ReadGoesOn (s t : State) : Prop :=
  t = { s.consumed with
    ctrl := t.ctrl, addr := t.addr, arg := t.arg, rxQueue := t.rxQueue, hostReads := t.hostReads, draws := t.draws }

/-- While a read is in progress BUSY = 1 (R21, R80, R92). -/
theorem SeqState.busy_of_reading {q : SeqState} (h : q.reading = true) : q.busy = true := by
  rcases SeqState.reading_iff.1 h with rfl | rfl <;> rfl

/-- A step but a reset returns the read in progress, or the read goes on (R40). -/
theorem step_readReturns_or_goesOn {s t : State} (hs : s.st.reading = true) (hstep : step s = .next t)
    (hreset : s.nextInput ≠ some .reset) : t.rxlog = s.rxlog ++ [s.rxQueue.take 4] ∨ s.ReadGoesOn t := by
  cases step_cases hstep with
  | wait ht => exact .inr (ht ▸ rfl)
  | start op v tmoen dbg ht hbusy => exact absurd hbusy (by simp [State.busy, SeqState.busy_of_reading hs])
  | send hsend => exact absurd hsend (SeqState.ne_of_reading hs rfl)
  | await _ ht => exact .inl (ht ▸ (s.readTaken.await_readRecorded _).rxlog)
  | listen _ ht => exact .inl (ht ▸ (s.readTaken.listen_readRecorded _).rxlog)
  | read i v ht => exact .inr (ht ▸ rfl)
  | write i v c a g ht => exact .inr (ht ▸ rfl)
  | reset _ hi => exact absurd hi hreset
  | arrive bs ht => exact .inr (ht ▸ rfl)
  | arriveAny ht => exact .inr (ht ▸ rfl)

/-- When the timer's end is due the step returns the read (R121; log 4). -/
theorem step_of_timerDue_readReturns {s : State} (h : s.timerDue = true) :
    ∃ t, step s = .next t ∧ t.rxlog = s.rxlog ++ [s.rxQueue.take 4] := by
  obtain ⟨hi, -⟩ := State.consumed_of_timerDue h
  obtain ⟨t, hstep⟩ := step_of_allowed hi trivial
  exact ⟨t, hstep, by rw [receiveStep_eq ((step_of_timerDue h).symm.trans hstep)]⟩

/-- A timeout other than NONE is finite (R30, R40). -/
theorem Timeout.finite_of_ne_none {tmo : Timeout} (h : tmo ≠ .none) : tmo.finite = true := by
  cases tmo with
  | none => exact absurd rfl h
  | tmoVal => rfl
  | discDefault => rfl

/-- The moves before the timer's end of the read in progress, and that end: the moves listed once, and what is left of the
round of the endless ones (R121; log 4). -/
def State.readStepsLeft (s : State) : Nat := s.inputs.length + (s.forever.length - s.waited) + 1

/-- A move made before the timer's end is due is a listed one, lists none that was not listed, and leaves fewer. -/
theorem State.consumed_readStepsLeft {s : State} (harmed : s.timerArmed = true) (hdue : s.timerDue = false) :
    (∃ x ∈ s.inputs ++ s.forever, s.nextInput = some x) ∧
    s.consumed.inputs ++ s.consumed.forever ⊆ s.inputs ++ s.forever ∧ s.consumed.readStepsLeft < s.readStepsLeft := by
  cases hinputs : s.inputs with
  | cons x rest =>
    obtain ⟨hi, htaken⟩ := State.consumed_of_cons hinputs
    exact ⟨⟨x, by simp, hi⟩, by simp [htaken], by simp [State.readStepsLeft, htaken, hinputs]⟩
  | nil =>
    have hturn : s.waited < s.forever.length := by simpa [State.timerDue, hinputs, harmed] using hdue
    obtain ⟨x, rest, hf⟩ := List.exists_cons_of_length_pos (Nat.zero_lt_of_lt hturn)
    obtain ⟨hi, htaken⟩ := State.consumed_of_forever hinputs hf hdue
    refine ⟨⟨x, by simp [hf], hi⟩, by simp [htaken, hinputs, hf], ?_⟩
    rw [hf, List.length_cons] at hturn
    simp only [State.readStepsLeft, htaken, hinputs, hf, List.length_append, List.length_cons, List.length_nil]
    omega

/-- A read is in progress whose timer runs, and the host keeps to what R122 lets it do (R121, R122). -/
structure State.ReadsTimed (s : State) : Prop where
  reading : s.st.reading = true
  timed : s.latch.tmo.finite = true
  allowed : ∀ x ∈ s.inputs ++ s.forever, x.allowedWhileBusy

/-- A step returns that read, or leaves it in progress with fewer steps to its timer's end (R121; log 4). -/
theorem step_of_readsTimed {s : State} (h : s.ReadsTimed) : ∃ t, step s = .next t ∧
    (t.rxlog = s.rxlog ++ [s.rxQueue.take 4] ∨
      (t.ReadsTimed ∧ t.rxlog = s.rxlog ∧ t.readStepsLeft < s.readStepsLeft)) := by
  have harmed : s.timerArmed = true := Bool.and_eq_true_iff.2 ⟨h.reading, h.timed⟩
  cases hdue : s.timerDue with
  | true =>
    obtain ⟨t, hstep, hlog⟩ := step_of_timerDue_readReturns hdue
    exact ⟨t, hstep, .inl hlog⟩
  | false =>
    obtain ⟨⟨x, hx, hi⟩, hlisted, hfewer⟩ := State.consumed_readStepsLeft harmed hdue
    obtain ⟨t, hstep⟩ := step_of_allowed hi (h.allowed x hx)
    have hreset : s.nextInput ≠ some .reset := by
      intro hreset
      cases hi.symm.trans hreset
      exact h.allowed _ hx
    refine ⟨t, hstep, (step_readReturns_or_goesOn h.reading hstep hreset).imp_right fun ht => ?_⟩
    rw [ht]
    exact ⟨⟨h.reading, h.timed, fun y hy => h.allowed y (hlisted hy)⟩, rfl, hfewer⟩

/-- The read returns within the steps to its timer's end (R121). -/
theorem run_readReturns {n : Nat} {s : State} (h : s.ReadsTimed) (hn : s.readStepsLeft ≤ n) :
    ∃ k ≤ n, ∃ (t : State) (r : List Byte),
      Host.Core.run Sys2Proof.core k s = .next t ∧ r.length ≤ 4 ∧ t.rxlog = s.rxlog ++ [r] := by
  induction n generalizing s with
  | zero => simp [State.readStepsLeft] at hn
  | succ n ih =>
    obtain ⟨t, hstep, hlog | ⟨ht, hlog, hfewer⟩⟩ := step_of_readsTimed h
    · exact ⟨1, by omega, t, _, run_succ 0 hstep, List.length_take_le 4 _, hlog⟩
    · obtain ⟨k, hk, u, r, hrun, hr, hu⟩ := ih ht (by omega)
      exact ⟨k + 1, by omega, u, r, (run_succ k hstep).trans hrun, hr, hlog ▸ hu⟩

/-! ### A single-shot operation with a finite timeout -/

/-- The receive step ends a single-shot operation, whatever was read (R80, R81). -/
theorem State.await_done (r : List Byte) (s : State) : (s.await r).done = true := by
  rcases State.await_cases r s with ⟨e, -, heq⟩ | ⟨p, -, -, heq⟩ | ⟨p, -, -, heq⟩ <;> rw [heq]
  · rfl
  · rw [State.succeed_eq]
    rfl
  · rfl

/-- With no moves listed such an operation sends its request, reads once and ends (R78 to R82, R123; log 4). -/
theorem run_timedSingleShot {s : State} (hs : s.st = .sending) (hop : s.latch.op ≠ .discover)
    (htmo : s.latch.tmo.finite = true) (hi : s.inputs = []) (hf : s.forever = []) :
    ∃ t : State, Host.Core.run Sys2Proof.core 2 s = .next t ∧ t.done = true ∧
      t.txlog = s.txlog ++ [s.latch.request] ∧ t.rxlog = s.rxlog ++ [s.rxQueue.take 4] := by
  have hrecord := State.await_readRecorded (s.rxQueue.take 4) ({ s with rxQueue := s.rxQueue.drop 4, waited := 0 } : State).send
  exact ⟨_, run_sendThenRead hs hop hi hf (.inl htmo), State.await_done _ _, hrecord.txlog, hrecord.rxlog⟩

/-- R123's premise is that the START latches a finite timeout (R30, R67). -/
theorem finiteTmo.effectiveTimeout_finite {tmoen : Bool} {op : Op} (h : finiteTmo tmoen op) :
    (effectiveTimeout tmoen op).finite = true := by
  rcases h with rfl | rfl
  · rfl
  · exact effectiveTimeout_discover_finite tmoen

/-- Settles O56: a timed read has so many steps left, and a launched single-shot operation sends and reads after three. -/
theorem timedReadReturnsAndSingleShotEnds : Obligations.TimedReadReturnsAndSingleShotEnds := by
  refine ⟨?_, ?_, ?_⟩
  · intro s hs htmo hallowed
    have hleft : s.readStepsLeft ≤ s.inputs.length + s.forever.length + 1 := by
      rw [State.readStepsLeft]
      omega
    exact run_readReturns ⟨SeqState.reading_iff.2 hs, Timeout.finite_of_ne_none htmo, hallowed⟩ hleft
  · intro s hs hop htmo hnone
    obtain ⟨hi, hf, -⟩ := State.nextInput_none.1 hnone
    exact run_timedSingleShot hs hop htmo hi hf
  · intro before s c hlaunch hop hi hf
    obtain ⟨t, hrun, hdone, -, hlog⟩ :=
      run_timedSingleShot (s := s.launched c) rfl hop hlaunch.finiteTmo.effectiveTimeout_finite rfl hf
    exact ⟨t, (run_launch hlaunch.clean.notBusy hi 2).trans hrun, hdone, hlog⟩

end Sys2Proof.Machine
end
